-- ==== Sys2Proof/Word.lean ====
section
/-!
DEFINITION. The words, samples and index types of the Malgace 3470 model.
-/

namespace Sys2Proof

/-- A 16-bit word: a link word's data bits, a frame word, a table entry's word (R1, R20). -/
abbrev Word := BitVec 16

/-- An audio sample, an exact rational in units of a port's full scale (assumption log 7). -/
abbrev Sample := Rat

/-- A wheel W1 to W96; W(n) is n - 1 (00_scope.md). -/
abbrev Wheel := Fin 96

/-- A wheel engine E0 to E63 (R93). -/
abbrev EngineId := Fin 64

/-- A key of the console, numbered as the Key State table numbers it: UPPER k is k, LOWER k is
61 + k, PEDAL k is 122 + k (R59). -/
abbrev KeyId := Fin 147

/-- A contact: 0 to 8 are C1 to C9, 9 is CP (R24, R48). -/
abbrev ContactId := Fin 10

/-- A row of the count table: manual x 9 + n - 1 for Bn, 27 for BP of UPPER (R76). -/
abbrev BusRow := Fin 28

/-- An output O1 to O4; O(n) is n - 1 (00_scope.md). -/
abbrev OutputId := Fin 4

/-- A tone state: two 16-bit values (R93, R94). -/
structure ToneState where
  first : Word
  second : Word
  deriving DecidableEq, Repr, Inhabited

/-- The rest value of a tone state, zero in both (R94). -/
def ToneState.rest : ToneState := ⟨0, 0⟩

/-- The crossover state: the memory of a second-order filter (R161). -/
structure CrossoverState where
  first : Sample
  second : Sample
  deriving DecidableEq, Repr, Inhabited

/-- The crossover state at rest (R166). -/
def CrossoverState.rest : CrossoverState := ⟨0, 0⟩

end Sys2Proof
end

