-- ==== Sys2Proof/Machine/Crossover.lean ====
section
/-!
DEFINITION. Second-order filters, and what makes one the crossover's low-pass filter
(09_the_rotor_unit.md 9.7).
-/

namespace Sys2Proof.Machine

/-- A sample times a gain; silence stays silence. -/
def scaled (x gain : Sample) : Sample := if x = 0 then 0 else x * gain

/-- The coefficients of a linear second-order filter: those of its last three inputs and of its last two
outputs (R161). -/
structure Biquad where
  b0 : Sample
  b1 : Sample
  b2 : Sample
  a1 : Sample
  a2 : Sample
  deriving DecidableEq, Repr

/-- One tick of a second-order filter: its new memory and its output. The output is
b0 x + b1 x' + b2 x'' - a1 y' - a2 y'' over the input x of this tick and the inputs and outputs of the two
before it; the memory holds what the next two outputs take from the past (R161; assumption log 9). -/
def Biquad.run (f : Biquad) (m : CrossoverState) (x : Sample) : CrossoverState × Sample :=
  let y := scaled x f.b0 + m.first
  (⟨scaled x f.b1 - scaled y f.a1 + m.second, scaled x f.b2 - scaled y f.a2⟩, y)

/-- |p + q z + r z²|² on the unit circle, where c is the cosine of z's angle. -/
def squaredNorm (p q r c : Sample) : Sample :=
  p * p + q * q + r * r + 2 * q * (p + r) * c + 2 * p * r * (2 * c * c - 1)

/-- Positive where a filter passes more than half of the power of a tone, negative where it passes less; the
tone moves on by the angle of cosine c in a tick. -/
def Biquad.overHalf (f : Biquad) (c : Sample) : Sample :=
  2 * squaredNorm f.b0 f.b1 f.b2 c - squaredNorm 1 f.a1 f.a2 c

/-- The cosine of 1/60 of a turn lies between this multiple of 1/2^64 and the next (R161; assumption
log 9). -/
def cornerBelow : Sample := 18345690879559086948 / 2 ^ 64

/-- The next multiple of 1/2^64. -/
def cornerAbove : Sample := 18345690879559086949 / 2 ^ 64

/-- A filter is a second-order low-pass filter with its corner at 1/60 of the tick rate: no filter of a lower
order does the same (its numerator and denominator share no root), its memory dies away, a constant passes
unchanged, and it passes less than half of the power of the fastest tone and of a tone just above the
corner, and more than half of a tone just below it (R161; assumption log 9). Being of second order it then
passes more than half below one corner and less than half above it (Laws/Crossover.lean). -/
structure Biquad.IsCrossover (f : Biquad) : Prop where
  order : (f.b0 * f.a2 - f.b2) ^ 2 ≠ (f.b0 * f.a1 - f.b1) * (f.b1 * f.a2 - f.b2 * f.a1)
  settles : f.a2 < 1 ∧ f.a1 < 1 + f.a2 ∧ -f.a1 < 1 + f.a2
  constant : f.b0 + f.b1 + f.b2 = 1 + f.a1 + f.a2
  fastest : f.overHalf (-1) < 0
  faster : f.overHalf cornerBelow < 0
  slower : 0 < f.overHalf cornerAbove

/-- A filter that is one: the maximally flat one, its coefficients in units of 1/2^70. It only shows that
there are such filters; the part's own is a free value (Config.crossoverFilter). -/
def Biquad.flattest : Biquad :=
  let a1 : Sample := -2186628620999645075497 / 2 ^ 70
  let a2 : Sample := 1018081562028286181381 / 2 ^ 70
  let b := (1 + a1 + a2) / 4
  ⟨b, 2 * b, b, a1, a2⟩

theorem Biquad.flattest_isCrossover : Biquad.flattest.IsCrossover :=
  ⟨by decide +kernel, by decide +kernel, by decide +kernel, by decide +kernel, by decide +kernel, by decide +kernel⟩

/-- A second-order low-pass filter with its corner at 1/60 of the tick rate (R161). The defaults serve to show
that the type has a member, which a free value of it needs. -/
structure CrossoverFilter where
  biquad : Biquad := Biquad.flattest
  lawful : biquad.IsCrossover := by exact Biquad.flattest_isCrossover
  deriving Inhabited

end Sys2Proof.Machine
end

