-- ==== Sys2Proof/Machine/Pickup.lean ====
section
/-!
DEFINITION. Undriven pickup circuits, and what makes one fall to rest and to silence
(06_wheel_engines.md 6.6 and 6.7).
-/

namespace Sys2Proof.Machine

/-- How far a tone state is from rest: a quadratic form of its two values, taken as signed numbers, as the
energy left in a circuit is (R93, R94, R107; assumption log 8). -/
def toneEnergy (p q r : Int) (t : ToneState) : Int :=
  p * (t.first.toInt * t.first.toInt) + q * (t.first.toInt * t.second.toInt)
    + r * (t.second.toInt * t.second.toInt)

/-- The tone state after a number of ticks without drive, one for each sample of the waveform. -/
def settleOver (step : ToneState → Sample → ToneState × Sample) (t : ToneState) (xs : List Sample) : ToneState :=
  xs.foldl (fun t x => (step t x).1) t

/-- The ticks for which an IDLE engine's circuit runs: the one in which it became IDLE and those of the settle
counts 1 to 255 (R107, R108). -/
def settlingTicks : Nat := 256

/-- A circuit that is at rest at once falls to rest as the law below asks. -/
theorem settleOver_atOnce (t : ToneState) (xs : List Sample) :
    257 ^ 2 * toneEnergy 1 0 1 (settleOver (fun _ _ => (ToneState.rest, 0)) t xs)
      ≤ (257 - xs.length : Int) ^ 2 * toneEnergy 1 0 1 t := by
  have square : ∀ a : Int, 0 ≤ a * a := fun a =>
    (Int.le_total 0 a).elim (fun h => Int.mul_nonneg h h) (fun h => Int.mul_nonneg_of_nonpos_of_nonpos h h)
  have rest : ∀ xs, settleOver (fun _ _ => (ToneState.rest, 0)) ToneState.rest xs = ToneState.rest := by
    intro xs
    induction xs with
    | nil => rfl
    | cons _ xs ih => exact ih
  cases xs with
  | nil => simp [settleOver]
  | cons x xs =>
    have e : settleOver (fun _ _ => (ToneState.rest, 0)) t (x :: xs) = ToneState.rest := rest xs
    have energy : 0 ≤ toneEnergy 1 0 1 t := by
      have a := square t.first.toInt
      have b := square t.second.toInt
      unfold toneEnergy
      omega
    have share : 0 ≤ (257 - (x :: xs).length : Int) ^ 2 := by
      rw [Int.pow_succ, Int.pow_succ, Int.pow_zero, Int.one_mul]
      exact square _
    rw [e]
    exact Int.mul_nonneg share energy

/-- The undriven pickup circuit of each wheel: from the tone state and the waveform, the new tone state and
the settling output. The tone state falls toward rest at every tick and stays there; n ticks on, what is left
of it is at most 1 - n/257 of what it was, so that it is almost at rest after the 256 ticks for which the
circuit runs; and the output is no louder than what is left, so that it falls to silence (R107, R108;
assumption log 8). The defaults serve to show that the type has a member, which a free value of it needs. -/
structure UndrivenCircuit where
  step : Wheel → ToneState → Sample → ToneState × Sample := fun _ _ _ => (ToneState.rest, 0)
  p : Int := 1
  q : Int := 0
  r : Int := 1
  loudness : Sample := 0
  positive : 0 < p ∧ q * q < 4 * p * r := by decide
  loud : 0 ≤ loudness := by decide +kernel
  falls : ∀ w t x, toneEnergy p q r (step w t x).1 < toneEnergy p q r t ∨ (step w t x).1 = ToneState.rest := by
    exact fun _ _ _ => Or.inr rfl
  nearly : ∀ w t (xs : List Sample), xs.length ≤ settlingTicks →
    257 ^ 2 * toneEnergy p q r (settleOver (step w) t xs) ≤ (257 - xs.length : Int) ^ 2 * toneEnergy p q r t := by
    exact fun _ t xs _ => settleOver_atOnce t xs
  silent : ∀ w t x, (step w t x).2 * (step w t x).2 ≤ loudness * (toneEnergy p q r t : Rat) := by
    intro w t x
    simp
  deriving Inhabited

end Sys2Proof.Machine
end

