-- ==== Sys2Proof/Machine/Waveform.lean ====
section
/-!
DEFINITION. The cosine of an angle, and the waveform of a wheel as a sine and its upper harmonics
(05_the_bus_matrix.md 5.4, 06_wheel_engines.md 6.7, 09_the_rotor_unit.md 9.7).
-/

namespace Sys2Proof.Machine

/-! The cosine is irrational but at the quarter turns: the model computes it to the nearest 1/2^64 of its
series, with the sign and the symmetry of the four quarters exact (R87, R162; assumption log 10). -/

/-- Pi to twenty decimals. -/
def piDecimal : Sample := 314159265358979323846 / 100000000000000000000

/-- The alternating series 1 - y/((k+1)(k+2)) (1 - y/((k+3)(k+4)) (1 - …)) to n factors: with y = x² the
cosine of x for k = 0, and the sine over x for k = 1. -/
def nestedSeries (y : Sample) : Nat → Nat → Sample
  | 0, _ => 1
  | n + 1, k => 1 - y / (((k + 1) * (k + 2) : Nat) : Rat) * nestedSeries y n (k + 2)

/-- The number of factors that the model takes of a series, for angles up to an eighth of a turn. -/
def seriesLength : Nat := 10

/-- The nearest multiple of 1/2^64. -/
def roundSample (x : Sample) : Sample := ((x * 2 ^ 64 + 1 / 2).floor : Rat) / 2 ^ 64

/-- The cosine of q/2^24 of a turn in the first quarter: from the cosine's series up to an eighth of a turn,
and from the sine's series of the rest of the quarter beyond. -/
def quarterCosine (q : Nat) : Sample :=
  if q ≤ 2097152 then
    let x := (q : Rat) * piDecimal / 8388608
    roundSample (nestedSeries (x * x) seriesLength 0)
  else
    let x := ((4194304 - q : Nat) : Rat) * piDecimal / 8388608
    roundSample (x * nestedSeries (x * x) seriesLength 1)

/-- The cosine of an angle in units of 1/2^24 of a turn, each quarter from the first. -/
def turnCosine (angle : BitVec 24) : Sample :=
  let a := angle.toNat
  if a ≤ 4194304 then quarterCosine a
  else if a ≤ 8388608 then -quarterCosine (8388608 - a)
  else if a ≤ 12582912 then -quarterCosine (a - 8388608)
  else quarterCosine (16777216 - a)

/-- The sine of a phase: the cosine of the angle a quarter turn before it. -/
def sine (phase : BitVec 24) : Sample := turnCosine (phase - 4194304)

/-- The harmonic content of the sixteen shapes: the level of the fundamental, how many upper harmonics there
are, how much each shape has of each of them, and where each stands against the fundamental. Shape 0 is a pure
sine, and each step up adds to the upper harmonics (R87; assumption log 8). The defaults serve to show that
the type has a member, which a free value of it needs. -/
structure WheelVoices where
  level : Sample := 1
  count : Nat := 1
  amount : Fin 16 → Nat → Sample := fun shape _ => (shape.val : Rat)
  offset : Nat → BitVec 24 := fun _ => 0
  heard : 0 < level := by decide +kernel
  pure : ∀ n, amount 0 n = 0 := by intro _; decide +kernel
  more : ∀ a b, a < b →
    (∀ n, amount a n ≤ amount b n) ∧ ∃ n, n < count ∧ amount a n < amount b n := by
    intro a b h
    exact ⟨fun _ => by revert a b; decide +kernel, 0, by decide, by revert a b; decide +kernel⟩
  deriving Inhabited

/-- The waveform of a shape at a phase: the fundamental and, n from 0, its harmonic n + 2 (R87, R108). -/
def WheelVoices.waveform (v : WheelVoices) (shape : Fin 16) (phase : BitVec 24) : Sample :=
  v.level * sine phase + ((List.range v.count).map (fun n =>
    v.amount shape n * sine (BitVec.ofNat 24 ((n + 2) * phase.toNat) + v.offset n))).sum

end Sys2Proof.Machine
end

