-- ==== Sys2Proof/Config.lean ====
section
/-!
DEFINITION. The free values of the model: what the manual leaves to the part's arithmetic
(00_scope.md, Scope). None has a body, so no proof can lean on a value of one, but for what its
type says.
-/

namespace Sys2Proof

/-- What the sixteen shapes of the Wheel Voicing are made of: any harmonic content in which shape 0 is a pure
sine and each step up adds to the upper harmonics (R87; assumption log 8). -/
opaque Config.wheelVoices : Machine.WheelVoices

/-- A wheel's pickup circuit, driven: from the tone state and the waveform, the new tone state and the wheel
signal (R108; assumption log 8). -/
opaque Config.pickup : Wheel → ToneState → Sample → ToneState × Sample

/-- The wheels' pickup circuits with no drive, for IDLE engines: any under which the tone state falls toward
rest and the settling output to silence (R107, R108; assumption log 8). -/
opaque Config.undrivenPickup : Machine.UndrivenCircuit

/-- The fixed filter of the crossover: any second-order low-pass filter with its corner at 1/60 of the tick
rate (R161; assumption log 9). -/
opaque Config.crossoverFilter : Machine.CrossoverFilter

/-- The full scale of a manual sum, in units of a port's full scale (R89; assumption log 11). -/
opaque Config.manualFullScale : Sample

end Sys2Proof
end

