-- ==== Sys2Proof/Syntax.lean ====
section
/-!
DEFINITION. The commands of the block: one constructor of Instr for each row of
spec/opcode_table.json, with the row's operands.
-/

namespace Sys2Proof

/-- The three manuals (00_scope.md). -/
inductive Manual
  | upper | lower | pedal
  deriving DecidableEq, Repr

/-- The manual's code 0, 1, 2 (R22, R23). -/
def Manual.toFin : Manual → Fin 3
  | .upper => 0
  | .lower => 1
  | .pedal => 2

/-- How a taken request was sent: to this station, or to Station 31 (R6, R28). -/
inductive Addressing
  | addressed | broadcast
  deriving DecidableEq, Repr

/-- What the Request Unit reads of a request's header beside its Kind and Length (R28). -/
structure Head where
  sent : Addressing
  tag : BitVec 3
  deriving DecidableEq, Repr

/-- One link word as the receiver samples it: the level of the start bit, the 16 data bits, the
marker bit, the parity bit and the level of the stop bit (R1). -/
structure LinkWord where
  startHigh : Bool
  data : Word
  marker : Bool
  parity : Bool
  stopHigh : Bool
  deriving DecidableEq, Repr

/-- The unassigned downstream kinds (R2). -/
inductive UnassignedKind
  | kind5 | kind6 | kind7
  deriving DecidableEq, Repr

/-- The percussion switches moved by controls 50, 51 and 52 (R135). -/
inductive PercussionControl
  | level | decay | harmonic
  deriving DecidableEq, Repr

/-- The scanner controls 56, 57 and 58 (R148). -/
inductive ScannerControl
  | mode | onUpper | onLower
  deriving DecidableEq, Repr

/-- The two rotors (R152). -/
inductive RotorId
  | horn | drum
  deriving DecidableEq, Repr

/-- What arrives on Cascade In in one tick (R168). -/
inductive CascadeFrame
  | good (sample : Sample)
  | missing
  | misframed
  | several
  deriving DecidableEq, Repr

/-- The fault kinds, in the order that numbers them 0 to 7 (R179). -/
inductive FaultKind
  | linkLost | consoleSilence | engineShortage | clockFallback
  | scheduleFull | outputLimit | strayOverflow | linkErrors
  deriving DecidableEq, Repr

/-- The number of a fault kind: its Fault Configuration entry and NOTICE bit (R179). -/
def FaultKind.toFin : FaultKind → Fin 8
  | .linkLost => 0
  | .consoleSilence => 1
  | .engineShortage => 2
  | .clockFallback => 3
  | .scheduleFull => 4
  | .outputLimit => 5
  | .strayOverflow => 6
  | .linkErrors => 7

/-- The notice settings of Link Settings: entry 2 (enable and count) and entry 3 (time) (R18). -/
inductive NoticeEntry
  | enableAndCount | time
  deriving DecidableEq, Repr

/-- The commands: one constructor for each row of spec/opcode_table.json. -/
inductive Instr
  /-- POWER_ON (R42). -/
  | powerOn
  /-- RESET_PIN: the RESET pin is asserted (R42). -/
  | resetPin
  /-- RESET_RELEASE, with the levels of STRAP4 to STRAP0 (R17, R26). -/
  | resetRelease (strap : BitVec 5)
  /-- INITIALIZATION_DONE: the initialization timer takes its tick (R26). -/
  | initializationDone
  /-- LINK_WORD: one word arrives at LINK_IN (R3). -/
  | linkWord (w : LinkWord)
  /-- QUIET_TIMER_EXPIRY: the quiet timer takes its tick (R16). -/
  | quietTimerExpiry
  /-- SEARCH_WINDOW_END: the window timer takes its tick (R13). -/
  | searchWindowEnd
  /-- TRANSMITTER_FREE: LINK_OUT ends a frame or an idle word (R11). -/
  | transmitterFree
  /-- UNKNOWN_KIND: a taken frame of kind 5, 6 or 7 (R7). -/
  | unknownKind (h : Head) (kind : UnassignedKind)
  /-- WRITE: a WRITE request by its payload words (R31). -/
  | write (h : Head) (payload : List Word)
  /-- WRITE_KEY_MAP: entry count, start index and entry data (R46). -/
  | writeKeyMap (h : Head) (count : BitVec 8) (start : Word) (data : List Word)
  /-- WRITE_WHEEL_PITCH (R95). -/
  | writeWheelPitch (h : Head) (count : BitVec 8) (start : Word) (data : List Word)
  /-- WRITE_FAULT_CONFIGURATION (R185). -/
  | writeFaultConfiguration (h : Head) (count : BitVec 8) (start : Word) (data : List Word)
  /-- WRITE_STATION_NUMBER: Link Settings entry 0 (R18). -/
  | writeStationNumber (h : Head) (value : Word)
  /-- WRITE_SILENCE_WINDOW: Link Settings entry 1 (R187). -/
  | writeSilenceWindow (h : Head) (value : Word)
  /-- WRITE_NOTICE_SETTINGS: Link Settings entries 2 and 3 (R189). -/
  | writeNoticeSettings (h : Head) (first : NoticeEntry) (data : List Word)
  /-- WRITE_ROTOR_SETTINGS (R155). -/
  | writeRotorSettings (h : Head) (count : BitVec 8) (start : Word) (data : List Word)
  /-- WRITE_OUTPUT_SETTINGS (R176). -/
  | writeOutputSettings (h : Head) (count : BitVec 8) (start : Word) (data : List Word)
  /-- READ: a READ request by its payload words (R33). -/
  | read (h : Head) (payload : List Word)
  /-- PLAY: the argument and any further payload words (R35). -/
  | play (h : Head) (arg : BitVec 8) (rest : List Word)
  /-- STANDBY (R35). -/
  | standby (h : Head) (arg : BitVec 8) (rest : List Word)
  /-- ALL_KEYS_UP: the argument is the manual mask (R36). -/
  | allKeysUp (h : Head) (arg : BitVec 8) (rest : List Word)
  /-- CLEAR_FAULTS (R184). -/
  | clearFaults (h : Head) (arg : BitVec 8) (rest : List Word)
  /-- SELECT_PRESET in mode NOW: argument, manual field, preset, bits 7 to 0 of word 2 (R123). -/
  | selectPresetNow (h : Head) (arg : BitVec 8) (manual : BitVec 2) (preset : BitVec 4) (low : BitVec 8)
  /-- SELECT_PRESET in mode GLIDE (R124). -/
  | selectPresetGlide (h : Head) (arg : BitVec 8) (manual : BitVec 2) (preset : BitVec 4) (low : BitVec 8)
  /-- SELECT_PRESET in mode NEXT_PLAY (R127). -/
  | selectPresetNextPlay (h : Head) (arg : BitVec 8) (manual : BitVec 2) (preset : BitVec 4) (low : BitVec 8)
  /-- FLUSH_ENGINES (R111). -/
  | flushEngines (h : Head) (arg : BitVec 8) (rest : List Word)
  /-- RESTORE_FACTORY: the argument is the table id (R40). -/
  | restoreFactory (h : Head) (arg : BitVec 8) (rest : List Word)
  /-- RESTORE_STEP: the restore cursor takes its tick (R40). -/
  | restoreStep
  /-- CLEAR_COUNTERS (R37). -/
  | clearCounters (h : Head) (arg : BitVec 8) (rest : List Word)
  /-- SOFT_RESET (R41). -/
  | softReset (h : Head) (arg : BitVec 8) (rest : List Word)
  /-- KEY_DOWN: source, raw key and travel of a key-down event word (R49). -/
  | keyDown (source : BitVec 2) (raw : BitVec 7) (travel : BitVec 6)
  /-- KEY_UP (R51). -/
  | keyUp (source : BitVec 2) (raw : BitVec 7) (travel : BitVec 6)
  /-- SCHEDULE_ENTRY_DUE (R67). -/
  | scheduleEntryDue
  /-- CLICK_PULSE_EXPIRY (R89). -/
  | clickPulseExpiry
  /-- LOAD_COMPLETE (R103). -/
  | loadComplete
  /-- WRITE_BACK_COMPLETE (R104). -/
  | writeBackComplete
  /-- SETTLE_DONE: an engine takes its settle tick (R107). -/
  | settleDone (e : EngineId)
  /-- CONTROL_ERROR: a control word that R119 does not accept. -/
  | controlError (id : BitVec 8) (value : BitVec 8)
  /-- DRAWBAR_MOVE of bus n + 1 of a manual (R120). -/
  | drawbarMove (m : Manual) (n : Fin 9) (value : BitVec 8)
  /-- EXPRESSION_MOVE (R130). -/
  | expressionMove (value : BitVec 8)
  /-- PERCUSSION_ENABLE (R141). -/
  | percussionEnable (value : BitVec 8)
  /-- PERCUSSION_SWITCH (R135). -/
  | percussionSwitch (which : PercussionControl) (value : BitVec 8)
  /-- SCANNER_MOVE (R148). -/
  | scannerMove (which : ScannerControl) (value : BitVec 8)
  /-- ROTOR_SELECT (R153). -/
  | rotorSelect (value : BitVec 8)
  /-- ROTOR_BRAKE (R154). -/
  | rotorBrake (value : BitVec 8)
  /-- CONTROL_RELEASE (R56). -/
  | controlRelease (value : BitVec 8)
  /-- GLIDE_STEP: a manual's glide timer takes its tick (R125). -/
  | glideStep (m : Manual)
  /-- HALVING: the halving timer takes its tick (R139). -/
  | halving
  /-- BOUNDARY_STEP: both rotors take their tick (R156, R159). -/
  | boundaryStep
  /-- PARKING_CHECK: one rotor takes its tick (R158, R159). -/
  | parkingCheck (r : RotorId)
  /-- WCLK_EDGE, with the period it ends in seconds; none for the first edge (R167). -/
  | wclkEdge (period : Option Rat)
  /-- MISSING_EDGE (R167). -/
  | missingEdge
  /-- CASCADE_SAMPLE (R168). -/
  | cascadeSample (frame : CascadeFrame)
  /-- EPISODE_START: the output stage takes its step (R172, R173). -/
  | episodeStart
  /-- EPISODE_END: the output stage takes its step (R172, R174). -/
  | episodeEnd
  /-- RETRY_EXPIRY: a record's retry timer takes its tick (R183). -/
  | retryExpiry (k : FaultKind)
  /-- CONSOLE_SILENCE_EXPIRY: the silence timer takes its tick (R187). -/
  | consoleSilenceExpiry
  /-- NOTICE_TIME_EXPIRY: the notice timer takes its tick (R189). -/
  | noticeTimeExpiry
  /-- NOTICE_WAITING_QUEUED (R190). -/
  | noticeWaitingQueued
  /-- INTERNAL_OSCILLATOR_TICK (R167). -/
  | internalOscillatorTick
  deriving DecidableEq, Repr

end Sys2Proof
end

