-- ==== Sys2Proof/Decode.lean ====
section
/-!
DEFINITION. Table words. No row of spec/opcode_table.json has bits, so no word spells a command
(assumption log 24).
-/

namespace Sys2Proof

/-- The command that a word spells by the table's bits: none, since no row gives bits. -/
def decodeTableWord (_nbits _w : Nat) : Option Instr := none

end Sys2Proof
end

