-- ==== Sys2Proof/Machine/State.lean ====
section
/-!
DEFINITION. The state of the Malgace 3470, block by block as 00_scope.md lists the blocks, and its
value after a full reset.
-/

namespace Sys2Proof.Machine

/-- A count of ticks. `ticked` is the model's own mark: the timer has already made its addition of
the present tick, or was started in it (assumption log 3). -/
structure Timer where
  running : Bool
  count : Nat
  ticked : Bool
  deriving DecidableEq, Repr

/-- A stopped timer. -/
def Timer.stopped : Timer := ⟨false, 0, true⟩

/-- A timer started from 0 at this tick: it adds one at each tick after this one. -/
def Timer.start : Timer := ⟨true, 0, true⟩

/-! ### LNK, the Link Unit (01_the_console_link.md) -/

/-- What the Forward Queue does with the frame in assembly (R6, R8). -/
inductive Forwarding
  | notForwarded | admitted | refused
  deriving DecidableEq, Repr

/-- The receiver's frame in assembly: its words so far, the header first; whether a bad word has
failed it; whether the station filter takes it, decided when its header arrived (R3, R6). -/
structure Assembly where
  words : List Word
  failed : Bool
  take : Bool
  forwarding : Forwarding
  deriving DecidableEq, Repr

/-- A frame of the Forward Queue: its words as they arrived, the words of room it still reserves, and
whether it has been received whole and judged good (R8, R9). -/
structure ForwardFrame where
  words : List Word
  room : Nat
  complete : Bool
  deriving DecidableEq, Repr

/-- What LINK_OUT sends: the stop level while RESET is asserted (R19), an idle word, the head of the
Forward Queue or the head of the Reply Queue (R11). -/
inductive Transmit
  | stopLevel | idle | forwarding | replying
  deriving DecidableEq, Repr

/-- The Link Unit (R19). The station number is entry 0 of Link Settings (R18), held in `Tables`. `toSend`
holds what LINK_OUT has still to send, the word on the line first, each word with the levels of its start
bit, marker, parity and stop bit (R1, R12); it is empty while LINK_OUT is held at the stop level (R19). -/
structure LinkUnit where
  linked : Bool
  rate : Fin 4
  window : Nat
  windowTimer : Timer
  lockRun : Nat
  sinceLock : Bool
  assembly : Option Assembly
  loss : Nat
  quiet : Timer
  forward : List ForwardFrame
  replies : List (List Word)
  replyHeld : Bool
  waitCount : Nat
  strap : BitVec 5
  transmit : Transmit
  toSend : List LinkWord
  txRate : Fin 4
  lockRate : Fin 4
  deriving DecidableEq, Repr

/-! ### REQ, the Request Unit (02_requests_tables_and_commands.md) -/

/-- The operating states (R25). -/
inductive OpState
  | initializing | standby | playing
  deriving DecidableEq, Repr

/-- The causes of the most recent reset (R41, R42). -/
inductive ResetCause
  | powerOn | resetPin | soft
  deriving DecidableEq, Repr

/-- The long commands (R38). -/
inductive LongCommand
  | flushEngines | restoreFactory
  deriving DecidableEq, Repr

/-- The last result of a long command (R38). -/
inductive LastResult
  | none | done | abandoned
  deriving DecidableEq, Repr

/-- The twenty-one tables of the directory (R30). -/
inductive TableId
  | keyMap | contactProfile | wheelAssignment | wheelPitch | wheelVoicing | busLoadCurve | drawbarLaw
  | presets | expressionCurve | faultConfiguration | linkSettings | playSettings | rotorSettings
  | outputSettings | status | keyState | engineState | starvedWheels | contactSchedule | counters
  | drawbarState
  deriving DecidableEq, Repr

/-- The restore cursor: the table under RESTORE_FACTORY and the index of the next entry (R40). -/
structure RestoreCursor where
  table : TableId
  index : Nat
  ticked : Bool
  deriving DecidableEq, Repr

/-- The Request Unit. `held` is set while every block is held in its full-reset state (R42). -/
structure RequestUnit where
  held : Bool
  opState : OpState
  initTimer : Timer
  inFlight : Option LongCommand
  lastResult : LastResult
  cursor : Option RestoreCursor
  resetCause : ResetCause
  deriving DecidableEq, Repr

/-- The fourteen writable tables (R23, R30), each entry as the word or increment software writes. -/
structure Tables where
  keyMap : Vector Word 512
  contactProfile : Vector Word 28
  wheelAssignment : Vector Word 1323
  wheelPitch : Vector (BitVec 24) 96
  wheelVoicing : Vector Word 96
  busLoadCurve : Vector Word 16
  drawbarLaw : Vector Word 9
  presets : Vector Word 432
  expressionCurve : Vector Word 128
  faultConfiguration : Vector Word 8
  linkSettings : Vector Word 4
  playSettings : Vector Word 16
  rotorSettings : Vector Word 16
  outputSettings : Vector Word 12
  deriving DecidableEq, Repr

/-! ### KEY, the Key Unit (03_keys_and_the_key_map.md) -/

/-- The key states (R48). -/
inductive KeyState
  | up | descending | down | ascending
  deriving DecidableEq, Repr

/-- A contact: open, or closed with the wheel bound at its closure or none (R48). -/
inductive Contact
  | opened
  | closed (bound : Option Wheel)
  deriving DecidableEq, Repr

/-- A key record. CP of a LOWER or PEDAL key does not exist; its place stays open (R48, R59). -/
structure KeyRecord where
  state : KeyState
  travel : BitVec 6
  contacts : Vector Contact 10
  deriving DecidableEq, Repr

/-- The Key Unit; the Key Map is in `Tables`, its counters in `Counters` (R48, R49). -/
structure KeyUnit where
  records : Vector KeyRecord 147
  hold : Bool
  deriving DecidableEq, Repr

/-! ### SEQ, the Contact Sequencer (04_contact_sequencing.md) -/

/-- The kinds of contact transition. -/
inductive Transition
  | close | open_
  deriving DecidableEq, Repr

/-- An entry of the Contact Schedule; the manual is the key's (R63). -/
structure ScheduleEntry where
  due : Word
  key : KeyId
  contact : ContactId
  kind : Transition
  deriving DecidableEq, Repr

/-- The Contact Sequencer: the Tick Count and the Contact Schedule, head first (R60, R63). -/
structure Sequencer where
  tickCount : Word
  schedule : List ScheduleEntry
  deriving DecidableEq, Repr

/-! ### BUS, the Bus Matrix (05_the_bus_matrix.md) -/

/-- A click pulse: manual, start tick, and sign (positive for a closure) (R88). -/
structure ClickPulse where
  manual : Manual
  start : Word
  positive : Bool
  deriving DecidableEq, Repr

/-- The Bus Matrix: the count table, the wheel demand, the click pulses oldest first
(R76, R78, R88). -/
structure BusMatrix where
  counts : Vector (Vector Nat 96) 28
  demand : Vector Nat 96
  clicks : List ClickPulse
  deriving DecidableEq, Repr

/-! ### ENG, the Engine Cache (06_wheel_engines.md) -/

/-- The engine states (R93). -/
inductive EngineState
  | free | loading | active | idle | writingBack
  deriving DecidableEq, Repr

/-- An engine record; the LRU links are the order of the LRU List (R93). -/
structure Engine where
  state : EngineState
  wheel : Option Wheel
  dirty : Bool
  settle : Nat
  next : Option Wheel
  tone : ToneState
  ticked : Bool
  deriving DecidableEq, Repr

/-- A wheel record of the Wheel Store (R94). -/
structure WheelRecord where
  tone : ToneState
  bound : Option EngineId
  deriving DecidableEq, Repr

/-- The kinds of store request (R98). -/
inductive RequestKind
  | load | writeBack
  deriving DecidableEq, Repr

/-- A pending store request (R98). -/
structure StoreRequest where
  engine : EngineId
  kind : RequestKind
  wheel : Wheel
  deriving DecidableEq, Repr

/-- The Engine Cache. Lists are head first (R96 to R98). `storeReady` is the model's own bit: the head
request became the head at an earlier tick, and no request has completed at this tick (R98). -/
structure EngineCache where
  engines : Vector Engine 64
  store : Vector WheelRecord 96
  wrap : BitVec 8
  free : List EngineId
  lru : List EngineId
  starved : List Wheel
  queue : List StoreRequest
  storeReady : Bool
  deriving DecidableEq, Repr

/-! ### REG, Registration (07_registration.md) -/

/-- A drawbar record: level and glide target (R120, R124). -/
structure Drawbar where
  level : Nat
  target : Option Nat
  deriving DecidableEq, Repr

/-- Registration, by manual code (R22). -/
structure Registration where
  drawbars : Vector (Vector Drawbar 9) 3
  glide : Vector Timer 3
  pendingReg : Vector (Option (Fin 16)) 3
  expression : BitVec 7
  deriving DecidableEq, Repr

/-! ### PRC, Percussion and Scanner (08_percussion_and_scanner.md) -/

/-- The percussion envelope's states (R136). -/
inductive EnvelopeState
  | off | armed | sounding | spent
  deriving DecidableEq, Repr

/-- The scanner's settings: mode code 0 to 6 and the two manual switches (R147, R148). -/
structure ScannerSetting where
  mode : Fin 7
  onUpper : Bool
  onLower : Bool
  deriving DecidableEq, Repr

/-- Percussion and Scanner. A set switch is on, SOFT, SLOW or THIRD (R135). `inForce` is the scanner
setting that the present tick uses (R148). A delay line holds its samples by age (R146). -/
structure Percussion where
  enable : Bool
  soft : Bool
  slow : Bool
  third : Bool
  envelope : EnvelopeState
  level : Nat
  halving : Timer
  setting : ScannerSetting
  inForce : ScannerSetting
  phase : Word
  upperLine : Vector Sample 64
  lowerLine : Vector Sample 64
  deriving DecidableEq, Repr

/-! ### ROT, the Rotor Unit (09_the_rotor_unit.md) -/

/-- The selector (R151). -/
inductive Selector
  | stop | slow | fast
  deriving DecidableEq, Repr

/-- The rotor states (R152). -/
inductive RotorState
  | stopped | slow | fast | rising | falling | parking
  deriving DecidableEq, Repr

/-- A rotor record. `ticked` is the model's own mark: the rotor's tick of R159 has been taken at the
present tick (assumption log 3). -/
structure Rotor where
  state : RotorState
  speed : Nat
  target : Nat
  position : Word
  remainder : Nat
  ticked : Bool
  deriving DecidableEq, Repr

/-- The Rotor Unit (R166). -/
structure RotorUnit where
  selector : Selector
  brake : Bool
  horn : Rotor
  drum : Rotor
  crossover : CrossoverState
  hornLine : Vector Sample 33
  deriving DecidableEq, Repr

/-! ### OUT, Audio Ports and Output Limiting (10_audio_ports_and_output_limiting.md) -/

/-- The sample clock's sources (R167). -/
inductive ClockSource
  | external | internal
  deriving DecidableEq, Repr

/-- The limiter modes (R172). -/
inductive LimitMode
  | off | nextPeriod | below | afterN | report
  deriving DecidableEq, Repr

/-- A limit episode: its mode, boundaries remaining and extend mark (R173). -/
structure Episode where
  mode : LimitMode
  remaining : Nat
  extend : Bool
  deriving DecidableEq, Repr

/-- A limiter record (R172 to R177). -/
structure Limiter where
  run : Nat
  episode : Option Episode
  flag : Bool
  deriving DecidableEq, Repr

/-- Audio Ports and Output Limiting. `quietPeriods` and `edgeSeen` count the internal periods without
a WCLK edge (R167); `muteBefore` is the mute request at the end of the previous tick (R171);
`cascadeJudged`, `stepTaken` and `unlimited` are the model's own marks of the present tick: its cascade
sample has been judged (assumption log 21), the output stage has taken its step, and a soft reset has come,
so that port samples still to be formed are formed without limiting (R178; assumption log 38). -/
structure OutputUnit where
  source : ClockSource
  missing : Nat
  goodRun : Nat
  quietPeriods : Nat
  edgeSeen : Bool
  cascadeValid : Bool
  cascadeRun : Nat
  cascadeIn : Sample
  cascadeJudged : Bool
  muteRequest : Bool
  muteBefore : Bool
  fade : Nat
  limiters : Vector Limiter 4
  ports : Vector Sample 4
  stepTaken : Bool
  unlimited : Bool
  deriving DecidableEq, Repr

/-! ### FLT, the Fault Unit (11_faults_and_notices.md) -/

/-- The fault actions (R180). -/
inductive Action
  | none | mute | release | hold
  deriving DecidableEq, Repr

/-- The fault modes (R180). -/
inductive FaultMode
  | latched | autoRetry | reportOnly | disabled
  deriving DecidableEq, Repr

/-- A fault record; `held` is the action held, empty when there is no episode (R180). -/
structure FaultRecord where
  present : Bool
  flag : Bool
  held : Option Action
  retry : Timer
  deriving DecidableEq, Repr

/-- The Fault Unit (R179 to R191). -/
structure FaultUnit where
  records : Vector FaultRecord 8
  silence : Timer
  fault : Bool
  warn : Bool
  pendingChanges : Nat
  noticeTimer : Timer
  waiting : Bool
  deriving DecidableEq, Repr

/-- The twenty counters of the Counters table (R37). -/
structure Counters where
  goodFrames : Word
  checkDrops : Word
  shortFrames : Word
  strayWords : Word
  forwardDrops : Word
  replyDrops : Word
  unknownKinds : Word
  strayKeys : BitVec 8
  repeatKeys : Word
  refusedKeys : Word
  collapses : Word
  hits : Word
  cleanMisses : Word
  dirtyMisses : Word
  shortages : Word
  controlErrors : Word
  limitEpisodes : Vector Word 4
  deriving DecidableEq, Repr

/-- The state of the part: its eleven blocks, its tables and counters, and the queue of the commands
that wait, first in first out. -/
structure State where
  lnk : LinkUnit
  req : RequestUnit
  tab : Tables
  key : KeyUnit
  seq : Sequencer
  bus : BusMatrix
  eng : EngineCache
  reg : Registration
  prc : Percussion
  rot : RotorUnit
  out : OutputUnit
  flt : FaultUnit
  cnt : Counters
  pending : List Instr
  deriving DecidableEq, Repr

/-- The reasons for which the machine would stop with a fault: none. The spec gives the part no state
in which it stops (INVENTORY.md, Faults); what it calls faults are records in `FaultUnit`. -/
inductive Fault
  deriving DecidableEq, Repr

/-- The reasons for which a command has no meaning. -/
inductive Refusal
  /-- An arm of exec that has no meaning yet (safe: nothing can be proved of it). No arm raises it. -/
  | notModelled (mnemonic : String)
  deriving DecidableEq, Repr

/-! ### The full-reset values -/

/-- The Link Unit at full reset (R19), the strap pins not yet sampled. -/
def LinkUnit.reset : LinkUnit where
  linked := false
  rate := 0
  window := 0
  windowTimer := Timer.stopped
  lockRun := 0
  sinceLock := false
  assembly := none
  loss := 0
  quiet := Timer.stopped
  forward := []
  replies := []
  replyHeld := false
  waitCount := 0
  strap := 0
  transmit := .stopLevel
  toSend := []
  txRate := 0
  lockRate := 0

/-- The Request Unit at full reset, held, with its cause (R42). -/
def RequestUnit.reset (cause : ResetCause) : RequestUnit where
  held := true
  opState := .initializing
  initTimer := Timer.stopped
  inFlight := none
  lastResult := .none
  cursor := none
  resetCause := cause

/-- The tables while they hold no usable contents (R26; zeros, assumption log 2). -/
def Tables.unusable : Tables where
  keyMap := Vector.replicate 512 0
  contactProfile := Vector.replicate 28 0
  wheelAssignment := Vector.replicate 1323 0
  wheelPitch := Vector.replicate 96 0
  wheelVoicing := Vector.replicate 96 0
  busLoadCurve := Vector.replicate 16 0
  drawbarLaw := Vector.replicate 9 0
  presets := Vector.replicate 432 0
  expressionCurve := Vector.replicate 128 0
  faultConfiguration := Vector.replicate 8 0
  linkSettings := Vector.replicate 4 0
  playSettings := Vector.replicate 16 0
  rotorSettings := Vector.replicate 16 0
  outputSettings := Vector.replicate 12 0

/-- A key record after a reset: UP, every contact open, travel 0 (R57). -/
def KeyRecord.reset : KeyRecord := ⟨.up, 0, Vector.replicate 10 .opened⟩

/-- The Key Unit at full reset (R57). -/
def KeyUnit.reset : KeyUnit := ⟨Vector.replicate 147 KeyRecord.reset, false⟩

/-- The Contact Sequencer at full reset (R75). -/
def Sequencer.reset : Sequencer := ⟨0, []⟩

/-- The Bus Matrix at full reset (R92). -/
def BusMatrix.reset : BusMatrix :=
  ⟨Vector.replicate 28 (Vector.replicate 96 0), Vector.replicate 96 0, []⟩

/-- A FREE and clean engine (R93, R117). -/
def Engine.reset : Engine := ⟨.free, none, false, 0, none, ToneState.rest, true⟩

/-- The Engine Cache at full reset (R117). -/
def EngineCache.reset : EngineCache where
  engines := Vector.replicate 64 Engine.reset
  store := Vector.replicate 96 ⟨ToneState.rest, none⟩
  wrap := 0
  free := List.finRange 64
  lru := []
  starved := []
  queue := []
  storeReady := true

/-- Registration from the release of full reset to the end of INITIALIZING (R134). -/
def Registration.reset : Registration where
  drawbars := Vector.replicate 3 (Vector.replicate 9 ⟨0, none⟩)
  glide := Vector.replicate 3 Timer.stopped
  pendingReg := Vector.replicate 3 none
  expression := 127

/-- The scanner off on both manuals (R149). -/
def ScannerSetting.off : ScannerSetting := ⟨0, false, false⟩

/-- Percussion and Scanner at full reset (R149). -/
def Percussion.reset : Percussion where
  enable := false
  soft := false
  slow := false
  third := false
  envelope := .off
  level := 0
  halving := Timer.stopped
  setting := ScannerSetting.off
  inForce := ScannerSetting.off
  phase := 0
  upperLine := Vector.replicate 64 0
  lowerLine := Vector.replicate 64 0

/-- A rotor at full reset (R166). -/
def Rotor.reset : Rotor := ⟨.stopped, 0, 0, 0, 0, false⟩

/-- The Rotor Unit at full reset (R166). -/
def RotorUnit.reset : RotorUnit where
  selector := .stop
  brake := false
  horn := Rotor.reset
  drum := Rotor.reset
  crossover := CrossoverState.rest
  hornLine := Vector.replicate 33 0

/-- A limiter record at full reset (R178). -/
def Limiter.reset : Limiter := ⟨0, none, false⟩

/-- Audio Ports and Output Limiting at full reset (R167, R168, R171, R178). -/
def OutputUnit.reset : OutputUnit where
  source := .internal
  missing := 0
  goodRun := 0
  quietPeriods := 0
  edgeSeen := false
  cascadeValid := false
  cascadeRun := 0
  cascadeIn := 0
  cascadeJudged := false
  muteRequest := true
  muteBefore := true
  fade := 0
  limiters := Vector.replicate 4 Limiter.reset
  ports := Vector.replicate 4 0
  stepTaken := false
  unlimited := false

/-- A clear fault record (R191). -/
def FaultRecord.clear : FaultRecord := ⟨false, false, none, Timer.stopped⟩

/-- The Fault Unit at full reset (R191). -/
def FaultUnit.reset : FaultUnit where
  records := Vector.replicate 8 FaultRecord.clear
  silence := Timer.stopped
  fault := false
  warn := false
  pendingChanges := 0
  noticeTimer := Timer.stopped
  waiting := false

/-- All twenty counters at 0 (R37). -/
def Counters.zero : Counters where
  goodFrames := 0
  checkDrops := 0
  shortFrames := 0
  strayWords := 0
  forwardDrops := 0
  replyDrops := 0
  unknownKinds := 0
  strayKeys := 0
  repeatKeys := 0
  refusedKeys := 0
  collapses := 0
  hits := 0
  cleanMisses := 0
  dirtyMisses := 0
  shortages := 0
  controlErrors := 0
  limitEpisodes := Vector.replicate 4 0

/-- Every block held in its full-reset state, with the cause of the reset (R42); no command waits. -/
def State.inReset (cause : ResetCause) : State where
  lnk := LinkUnit.reset
  req := RequestUnit.reset cause
  tab := Tables.unusable
  key := KeyUnit.reset
  seq := Sequencer.reset
  bus := BusMatrix.reset
  eng := EngineCache.reset
  reg := Registration.reset
  prc := Percussion.reset
  rot := RotorUnit.reset
  out := OutputUnit.reset
  flt := FaultUnit.reset
  cnt := Counters.zero
  pending := []

/-- The machine right after reset: a full reset that began with power-on has just been released, the
strap pins read 0 (assumption log 1), the part is INITIALIZING at Tick Count 0 (R26, R42), and LINK_OUT
sends its first idle word: Kind 15, marker set, odd parity (R12, R19). -/
def State.reset : State :=
  { State.inReset .powerOn with
    lnk := { LinkUnit.reset with
      windowTimer := Timer.start, transmit := .idle, toSend := [⟨false, 0x0780, true, false, true⟩] }
    req := { RequestUnit.reset .powerOn with held := false, initTimer := Timer.start } }

end Sys2Proof.Machine
end

