-- ==== Sys2Proof/Machine/Operands.lean ====
section
/-!
DEFINITION. The formats of everything that crosses the Console Link: bit fields, frame words, the
table directory, the ranges of table entries and of control words (01_the_console_link.md 1.12,
02_requests_tables_and_commands.md 2.3, 07_registration.md 7.1).
-/

namespace Sys2Proof.Machine

/-! ### Bit fields -/

/-- Bits hi to lo of a word as an unsigned number (1.12). -/
def bitsOf (w : Word) (hi lo : Nat) : Nat := (w.toNat >>> lo) % 2 ^ (hi + 1 - lo)

/-- The word that holds a number. -/
def wordOf (n : Nat) : Word := BitVec.ofNat 16 n

/-- A flag's contribution at bit n of a word. -/
def flagAt (b : Bool) (n : Nat) : Nat := if b then 2 ^ n else 0

/-- The vector whose entry i is f i. -/
def tabulate (n : Nat) (f : Nat → α) : Vector α n :=
  ⟨((List.finRange n).map (fun i => f i.val)).toArray, by simp⟩

/-! ### Frame words (R22) -/

/-- The header word of a frame. -/
def headerWord (station kind length tag : Nat) : Word :=
  wordOf (station * 2048 + kind * 128 + length * 8 + tag)

/-- The Station field of a header. -/
def headerStation (w : Word) : Nat := bitsOf w 15 11

/-- The Kind field of a header. -/
def headerKind (w : Word) : Nat := bitsOf w 10 7

/-- The Length field of a header. -/
def headerLength (w : Word) : Nat := bitsOf w 6 3

/-- The Tag field of a header. -/
def headerTag (w : Word) : BitVec 3 := BitVec.ofNat 3 (bitsOf w 2 0)

/-- The broadcast Station value (R2). -/
def broadcastStation : Nat := 31

/-- The first payload word of a request: table id or command code, and count or argument. -/
def requestWord (high low : Nat) : Word := wordOf (high * 256 + low)

/-- Bits 15 to 8 of a request's word 1; 0 when there is no word 1 (R29). -/
def requestHigh (payload : List Word) : Nat := bitsOf (payload.headD 0) 15 8

/-- Bits 7 to 0 of a request's word 1. -/
def requestLow (payload : List Word) : Nat := bitsOf (payload.headD 0) 7 0

/-- The payload of a WRITE of a table (R22). -/
def writePayload (table : Nat) (count : BitVec 8) (start : Word) (data : List Word) : List Word :=
  requestWord table count.toNat :: start :: data

/-- The payload of a COMMAND (R22). -/
def commandPayload (code : Nat) (arg : BitVec 8) (rest : List Word) : List Word :=
  requestWord code arg.toNat :: rest

/-- Word 2 of SELECT_PRESET (R22). -/
def presetWord (manual : BitVec 2) (preset : BitVec 4) (mode : Nat) (low : BitVec 8) : Word :=
  wordOf (manual.toNat * 16384 + preset.toNat * 1024 + mode * 256 + low.toNat)

/-- The Kind of an unassigned downstream frame (R2). -/
def unassignedKindCode : UnassignedKind → Nat
  | .kind5 => 5
  | .kind6 => 6
  | .kind7 => 7

/-! ### Keys, contacts, busses and wheels -/

/-- The manual of a key (R59). -/
def keyManual (k : KeyId) : Manual :=
  if k.val < 61 then .upper else if k.val < 122 then .lower else .pedal

/-- The key's index in its manual (R59). -/
def keyIndex (k : KeyId) : Nat :=
  if k.val < 61 then k.val else if k.val < 122 then k.val - 61 else k.val - 122

/-- The keys of a manual in index order (R55). -/
def manualKeys (m : Manual) : List KeyId := (List.finRange 147).filter (fun k => keyManual k == m)

/-- The contacts of a key in contact order C1 to C9, CP (R48, R50). -/
def contactsOf (k : KeyId) : List ContactId :=
  match keyManual k with
  | .upper => [0, 1, 2, 3, 4, 5, 6, 7, 8, 9]
  | _ => [0, 1, 2, 3, 4, 5, 6, 7, 8]

/-- The count row of bus Bn of a manual (R76). -/
def busRow (m : Manual) (n : Fin 9) : BusRow :=
  ⟨m.toFin.val * 9 + n.val, by have := m.toFin.isLt; have := n.isLt; omega⟩

/-- The count row of BP of UPPER (R76). -/
def percussionRow : BusRow := 27

/-- The count row that a contact of a key of a manual moves (R76, R77). -/
def contactRow (m : Manual) (c : ContactId) : BusRow :=
  if h : c.val < 9 then busRow m ⟨c.val, h⟩ else percussionRow

/-- The index of the Wheel Assignment entry of a key and bus Bn (R81). -/
def assignmentIndex (k : KeyId) (n : Fin 9) : Nat :=
  match keyManual k with
  | .upper => 9 * keyIndex k + n.val
  | .lower => 549 + 9 * keyIndex k + n.val
  | .pedal => 1098 + 9 * keyIndex k + n.val

/-- The index of the Contact Profile entry of a contact (R61). -/
def profileIndex (m : Manual) (c : ContactId) : Nat :=
  match m with
  | .upper => c.val
  | .lower => 10 + c.val
  | .pedal => 19 + c.val

/-- The wheel a table entry names; 0 is no wheel (R81). -/
def wheelOfWord (w : Word) : Option Wheel :=
  if h : 1 ≤ w.toNat ∧ w.toNat ≤ 96 then some ⟨w.toNat - 1, by omega⟩ else none

/-- The number of a wheel, 0 for none (R24). -/
def wheelNumber : Option Wheel → Nat
  | none => 0
  | some w => w.val + 1

/-- The key that a Key Map entry names, none when UNMAPPED (R23, R45). -/
def keyOfWord (w : Word) : Option KeyId :=
  let i := bitsOf w 5 0
  match bitsOf w 7 6 with
  | 0 => if h : i < 61 then some ⟨i, by omega⟩ else none
  | 1 => if h : i < 61 then some ⟨61 + i, by omega⟩ else none
  | 2 => if h : i < 25 then some ⟨122 + i, by omega⟩ else none
  | _ => none

/-- The manual a two-bit field names (R22). -/
def manualOfCode (n : Nat) : Option Manual :=
  match n with
  | 0 => some .upper
  | 1 => some .lower
  | 2 => some .pedal
  | _ => none

/-- The manuals a mask names, in the order UPPER, LOWER, PEDAL (R36, R55). -/
def manualsOfMask (mask : Nat) : List Manual :=
  [Manual.upper, .lower, .pedal].filter (fun m => (mask >>> m.toFin.val) % 2 == 1)

/-- All three manuals, in the order of a release (R55). -/
def allManuals : List Manual := [.upper, .lower, .pedal]

/-! ### The table directory (R30) -/

/-- The table of an id. -/
def tableOfId (id : Nat) : Option TableId :=
  match id with
  | 1 => some .keyMap
  | 2 => some .contactProfile
  | 3 => some .wheelAssignment
  | 4 => some .wheelPitch
  | 5 => some .wheelVoicing
  | 6 => some .busLoadCurve
  | 7 => some .drawbarLaw
  | 8 => some .presets
  | 9 => some .expressionCurve
  | 10 => some .faultConfiguration
  | 11 => some .linkSettings
  | 12 => some .playSettings
  | 13 => some .rotorSettings
  | 14 => some .outputSettings
  | 15 => some .status
  | 16 => some .keyState
  | 17 => some .engineState
  | 18 => some .starvedWheels
  | 19 => some .contactSchedule
  | 20 => some .counters
  | 21 => some .drawbarState
  | _ => none

/-- The entries of a table. -/
def tableEntries : TableId → Nat
  | .keyMap => 512
  | .contactProfile => 28
  | .wheelAssignment => 1323
  | .wheelPitch => 96
  | .wheelVoicing => 96
  | .busLoadCurve => 16
  | .drawbarLaw => 9
  | .presets => 432
  | .expressionCurve => 128
  | .faultConfiguration => 8
  | .linkSettings => 4
  | .playSettings => 16
  | .rotorSettings => 16
  | .outputSettings => 12
  | .status => 8
  | .keyState => 147
  | .engineState => 64
  | .starvedWheels => 96
  | .contactSchedule => 256
  | .counters => 20
  | .drawbarState => 27

/-- The words of an entry of a table. -/
def tableWidth : TableId → Nat
  | .wheelPitch | .engineState | .contactSchedule => 2
  | _ => 1

/-- The writable tables, ids 1 to 14. -/
def tableWritable : TableId → Bool
  | .status | .keyState | .engineState | .starvedWheels | .contactSchedule | .counters
  | .drawbarState => false
  | _ => true

/-! ### Fields of table entries (R23) -/

/-- The mode of a Fault Configuration entry. -/
def faultModeOfWord (w : Word) : FaultMode :=
  match bitsOf w 1 0 with
  | 0 => .latched
  | 1 => .autoRetry
  | 2 => .reportOnly
  | _ => .disabled

/-- The action of a Fault Configuration entry. -/
def faultActionOfWord (w : Word) : Action :=
  match bitsOf w 5 4 with
  | 0 => .none
  | 1 => .mute
  | 2 => .release
  | _ => .hold

/-- The limiter mode of an output's third Output Settings entry. -/
def limitModeOfWord (w : Word) : LimitMode :=
  match bitsOf w 2 0 with
  | 1 => .nextPeriod
  | 2 => .below
  | 3 => .afterN
  | 4 => .report
  | _ => .off

/-- A number lies in a range. -/
def inRange (n lo hi : Nat) : Bool := decide (lo ≤ n ∧ n ≤ hi)

/-- The range of a Play Settings entry (R23). -/
def playSettingOk (i n : Nat) : Bool :=
  if i ≤ 3 then inRange n 0 15
  else if i ≤ 5 then inRange n 1 65535
  else if i = 6 then inRange n 0 256
  else if i = 7 then true
  else if i ≤ 10 then inRange n 0 1008
  else if i = 11 then inRange n 1 255
  else if i = 12 then inRange n 0 1
  else if i = 13 then inRange n 1 255
  else n = 0

/-- The range of a Rotor Settings entry (R23, R165). -/
def rotorSettingOk (i n : Nat) : Bool :=
  if i = 0 ∨ i = 1 ∨ i = 4 ∨ i = 5 then inRange n 0 1500
  else if i ≤ 7 then inRange n 1 1500
  else if i ≤ 10 then true
  else if i ≤ 14 then inRange n 0 256
  else inRange n 0 1

/-- The fields of an Output Settings entry are in range and no other bit is set (R23). -/
def outputSettingOk (i : Nat) (w : Word) : Bool :=
  match i % 3 with
  | 0 => bitsOf w 7 3 == 0
  | 1 => bitsOf w 15 10 == 0
  | _ => inRange (bitsOf w 2 0) 0 4

/-- The fields of a Link Settings entry are in range and no other bit is set (R18, R23). -/
def linkSettingOk (i : Nat) (w : Word) : Bool :=
  match i with
  | 0 => inRange w.toNat 0 30
  | 1 => inRange w.toNat 0 7
  | 2 => bitsOf w 14 3 == 0 && inRange (bitsOf w 2 0) 1 7
  | _ => inRange w.toNat 0 255

/-- A Fault Configuration entry is in range; event kinds take REPORT_ONLY or DISABLED with action
NONE (R23, R180). -/
def faultSettingOk (i : Nat) (w : Word) : Bool :=
  bitsOf w 15 6 == 0 && bitsOf w 3 2 == 0 &&
    (decide (i < 4) || (inRange (bitsOf w 1 0) 2 3 && bitsOf w 5 4 == 0))

/-- A Key Map entry names a key of its manual, or is UNMAPPED with key index 0 (R31, R45). -/
def keyMapEntryOk (w : Word) : Bool :=
  bitsOf w 15 8 == 0 &&
    (match bitsOf w 7 6 with
     | 0 | 1 => inRange (bitsOf w 5 0) 0 60
     | 2 => inRange (bitsOf w 5 0) 0 24
     | _ => bitsOf w 5 0 == 0)

/-- Check 7 of R31 for one entry of a writable table: every field value is in range and every set bit
is covered by a field (R20, R23). -/
def entryOk (t : TableId) (i : Nat) (ws : List Word) : Bool :=
  let w := ws.headD 0
  match t with
  | .keyMap => keyMapEntryOk w
  | .contactProfile => inRange w.toNat 0 255
  | .wheelAssignment => inRange w.toNat 0 96
  | .wheelPitch => inRange w.toNat 0 127
  | .wheelVoicing => bitsOf w 15 12 == 0
  | .busLoadCurve | .drawbarLaw | .expressionCurve => inRange w.toNat 0 256
  | .presets => inRange w.toNat 0 8
  | .faultConfiguration => faultSettingOk i w
  | .linkSettings => linkSettingOk i w
  | .playSettings => playSettingOk i w.toNat
  | .rotorSettings => rotorSettingOk i w.toNat
  | .outputSettings => outputSettingOk i w
  | _ => false

/-! ### Control words (R118, R119) -/

/-- The values accepted for a control id; none for an unknown id (R119). -/
def controlRange (id : Nat) : Option (Nat × Nat) :=
  if id ≤ 8 ∨ (16 ≤ id ∧ id ≤ 24) ∨ (32 ≤ id ∧ id ≤ 40) then some (0, 8)
  else if id = 48 then some (0, 127)
  else if 49 ≤ id ∧ id ≤ 52 then some (0, 1)
  else if id = 56 then some (0, 6)
  else if id = 57 ∨ id = 58 then some (0, 1)
  else if id = 64 then some (0, 2)
  else if id = 65 then some (0, 1)
  else if id = 72 then some (1, 7)
  else none

/-- A control move passes the check of R119. -/
def controlOk (id value : Nat) : Bool :=
  match controlRange id with
  | some (lo, hi) => inRange value lo hi
  | none => false

/-- The control id of drawbar Bn of a manual (R118). -/
def drawbarControl (m : Manual) (n : Fin 9) : Nat := m.toFin.val * 16 + n.val

/-- The control id of a percussion switch (R135). -/
def percussionControl : PercussionControl → Nat
  | .level => 50
  | .decay => 51
  | .harmonic => 52

/-- The control id of a scanner control (R148). -/
def scannerControl : ScannerControl → Nat
  | .mode => 56
  | .onUpper => 57
  | .onLower => 58

end Sys2Proof.Machine
end

