-- ==== Sys2Proof/Machine/Factory.lean ====
section
/-!
DEFINITION. The factory contents of the fourteen writable tables, each from the chapter of the block
that owns the table (R26, R40).
-/

namespace Sys2Proof.Machine

/-- The factory Key Map (R45). -/
def factoryKeyMap (i : Nat) : Nat :=
  let raw := i % 128
  match i / 128 with
  | 0 => if inRange raw 36 96 then raw - 36 else 192
  | 1 => if inRange raw 36 96 then 64 + (raw - 36) else 192
  | 2 => if inRange raw 36 60 then 128 + (raw - 36) else 192
  | _ => 192

/-- The factory closure points of C1 to C9 and CP (R61). -/
def factoryClosurePoints : List Nat := [40, 64, 16, 88, 112, 136, 160, 184, 208, 232]

/-- The factory Contact Profile: the same points for each manual (R61). -/
def factoryProfile (i : Nat) : Nat :=
  factoryClosurePoints.getD (if i < 10 then i else if i < 19 then i - 10 else i - 19) 0

/-- The foldback of a wheel number 12 above the one sought: raised by 12 while below 1, lowered by 12
while above 96 (R83). -/
def foldback (above : Nat) : Nat :=
  if above ≤ 12 then above
  else if above ≤ 108 then above - 12
  else (above - 12) - 12 * ((above - 108 + 11) / 12)

/-- The factory offsets of B1 to B9, each plus 12 (R83). -/
def factoryOffsets : List Nat := [0, 19, 12, 24, 31, 36, 40, 43, 48]

/-- The factory Wheel Assignment: base wheel plus the bus's offset, folded back (R83). -/
def factoryAssignment (i : Nat) : Nat :=
  let base := if i < 549 then i / 9 + 13 else if i < 1098 then (i - 549) / 9 + 13 else (i - 1098) / 9 + 1
  foldback (base + factoryOffsets.getD (i % 9) 0)

/-- The factory Wheel Pitch increments: 32.7032 x 2^((n - 1)/12) Hz x 16,777,216 / 48,000, to the
nearest integer, for W1 to W96 (R95). -/
def factoryPitches : List Nat :=
  [11431, 12110, 12830, 13593, 14402, 15258, 16165, 17127, 18145, 19224, 20367, 21578] ++
  [22861, 24221, 25661, 27187, 28803, 30516, 32331, 34253, 36290, 38448, 40734, 43156] ++
  [45722, 48441, 51322, 54373, 57607, 61032, 64661, 68506, 72580, 76896, 81468, 86312] ++
  [91445, 96882, 102643, 108747, 115213, 122064, 129322, 137012, 145160, 153791, 162936, 172625] ++
  [182890, 193765, 205287, 217494, 230426, 244128, 258645, 274025, 290319, 307582, 325872, 345249] ++
  [365779, 387529, 410573, 434987, 460853, 488257, 517290, 548049, 580638, 615165, 651744, 690499] ++
  [731558, 775059, 821146, 869974, 921706, 976513, 1034580, 1096099, 1161276, 1230329, 1303489, 1380998] ++
  [1463116, 1550118, 1642293, 1739948, 1843411, 1953026, 2069159, 2192198, 2322553, 2460659, 2606977,
   2761996]

/-- The factory Wheel Pitch increment of wheel i + 1. -/
def factoryPitch (i : Nat) : Nat := factoryPitches.getD i 0

/-- The factory Wheel Voicing: shape 1 and the level of the wheel's place in the compass (R87). -/
def factoryVoicing (i : Nat) : Nat :=
  256 + (if i < 12 then 176 else if i < 24 then 208 else if i < 72 then 224 else if i < 84 then 200 else 168)

/-- The factory Bus Load Curve (R84). -/
def factoryLoadCurve (i : Nat) : Nat :=
  [64, 104, 134, 156, 173, 187, 198, 207, 215, 222, 228, 233, 238, 242, 246, 249].getD i 0

/-- The factory Drawbar Law (R121). -/
def factoryLaw (i : Nat) : Nat := [0, 16, 23, 32, 45, 64, 90, 128, 181].getD i 0

/-- The factory presets of UPPER and of LOWER (R122). -/
def factoryManualPresets : List (List Nat) :=
  [[8, 8, 8, 0, 0, 0, 0, 0, 0],
   [8, 3, 8, 0, 0, 0, 0, 0, 0],
   [0, 0, 8, 0, 0, 0, 0, 0, 0],
   [0, 0, 8, 8, 0, 0, 0, 0, 0],
   [8, 8, 8, 8, 0, 0, 0, 0, 0],
   [6, 8, 8, 6, 0, 0, 0, 0, 0],
   [8, 6, 8, 0, 0, 0, 0, 0, 0],
   [8, 0, 8, 8, 0, 8, 0, 0, 8],
   [8, 8, 8, 8, 8, 8, 8, 8, 8],
   [0, 0, 8, 0, 0, 0, 0, 0, 8],
   [8, 8, 7, 0, 0, 0, 0, 0, 0],
   [6, 6, 4, 4, 0, 0, 0, 0, 0],
   [8, 0, 0, 8, 0, 8, 8, 0, 0],
   [0, 0, 6, 8, 7, 6, 5, 4, 0],
   [8, 8, 8, 0, 0, 0, 8, 8, 8],
   [0, 0, 0, 0, 0, 0, 0, 0, 0]]

/-- The factory presets of PEDAL (R122). -/
def factoryPedalPresets : List (List Nat) :=
  [[8, 0, 6, 0, 0, 0, 0, 0, 0],
   [8, 0, 8, 0, 0, 0, 0, 0, 0],
   [6, 0, 4, 0, 0, 0, 0, 0, 0],
   [8, 0, 8, 4, 0, 0, 0, 0, 0],
   [5, 0, 5, 0, 0, 0, 0, 0, 0],
   [8, 0, 0, 0, 0, 0, 0, 0, 0],
   [0, 0, 8, 0, 0, 0, 0, 0, 0],
   [8, 0, 6, 2, 0, 0, 0, 0, 0],
   [8, 4, 8, 4, 2, 0, 0, 0, 0],
   [4, 0, 4, 0, 0, 0, 0, 0, 0],
   [7, 0, 5, 0, 0, 0, 0, 0, 0],
   [8, 0, 8, 8, 0, 0, 0, 0, 0],
   [6, 0, 6, 3, 0, 0, 0, 0, 0],
   [8, 0, 4, 0, 0, 0, 0, 0, 0],
   [8, 2, 8, 0, 0, 0, 0, 0, 0],
   [0, 0, 0, 0, 0, 0, 0, 0, 0]]

/-- The factory Presets: manual x 144 + preset x 9 + n - 1 (R122). -/
def factoryPresets (i : Nat) : Nat :=
  let rows := if i / 144 < 2 then factoryManualPresets else factoryPedalPresets
  (rows.getD (i % 144 / 9) []).getD (i % 9) 0

/-- The factory Expression Curve: 32 plus 224 x (e / 127)^2, to the nearest integer (R130). -/
def factoryExpression (e : Nat) : Nat := 32 + (2 * 224 * e * e + 127 * 127) / (2 * 127 * 127)

/-- The factory Fault Configuration: action and mode of each kind (R23, R179). -/
def factoryFaults (i : Nat) : Nat := [33, 34, 2, 17, 2, 2, 2, 2].getD i 0

/-- The factory Link Settings; entry 0 is the strap value (R18). -/
def factoryLink (strap : BitVec 5) (i : Nat) : Nat :=
  match i with
  | 0 => strap.toNat
  | 1 => 6
  | 2 => 32768 + 4
  | _ => 8

/-- The factory Play Settings (R90, R109, R125, R149, R183, R30). -/
def factoryPlay (i : Nat) : Nat :=
  [6, 6, 3, 4, 1800, 7200, 181, 9, 16, 32, 56, 2, 1, 8, 0, 0].getD i 0

/-- The factory Rotor Settings (R165). -/
def factoryRotor (i : Nat) : Nat :=
  [80, 680, 40, 50, 70, 600, 6, 4, 0, 0, 0, 128, 96, 80, 256, 0].getD i 0

/-- An Output Settings entry 0: level and source (R23). -/
def outputEntry0 (level source : Nat) : Nat := level * 256 + source

/-- An Output Settings entry 1: deglitch code and threshold (R23). -/
def outputEntry1 (deglitch threshold : Nat) : Nat := deglitch * 256 + threshold

/-- An Output Settings entry 2: limit gain, N, scope and mode (R23). -/
def outputEntry2 (gain n scope mode : Nat) : Nat := gain * 256 + n * 16 + scope * 8 + mode

/-- The factory Output Settings (R169). -/
def factoryOutput (i : Nat) : Nat :=
  [outputEntry0 224 1, outputEntry1 1 240, outputEntry2 160 3 0 3,
   outputEntry0 224 2, outputEntry1 1 240, outputEntry2 160 3 0 3,
   outputEntry0 224 4, outputEntry1 1 240, outputEntry2 160 0 0 4,
   outputEntry0 0 0, outputEntry1 1 240, outputEntry2 160 0 0 0].getD i 0

/-- The words of a 24-bit increment: upper 8 bits, then lower 16 bits (R23). -/
def pitchWords (n : Nat) : List Word := [wordOf (n / 65536), wordOf (n % 65536)]

/-- The factory contents of one entry of a writable table, as its words (R26, R40). -/
def factoryEntry (t : TableId) (strap : BitVec 5) (i : Nat) : List Word :=
  match t with
  | .keyMap => [wordOf (factoryKeyMap i)]
  | .contactProfile => [wordOf (factoryProfile i)]
  | .wheelAssignment => [wordOf (factoryAssignment i)]
  | .wheelPitch => pitchWords (factoryPitch i)
  | .wheelVoicing => [wordOf (factoryVoicing i)]
  | .busLoadCurve => [wordOf (factoryLoadCurve i)]
  | .drawbarLaw => [wordOf (factoryLaw i)]
  | .presets => [wordOf (factoryPresets i)]
  | .expressionCurve => [wordOf (factoryExpression i)]
  | .faultConfiguration => [wordOf (factoryFaults i)]
  | .linkSettings => [wordOf (factoryLink strap i)]
  | .playSettings => [wordOf (factoryPlay i)]
  | .rotorSettings => [wordOf (factoryRotor i)]
  | .outputSettings => [wordOf (factoryOutput i)]
  | _ => []

/-- The factory contents of all fourteen tables, with the strap value as station number (R18, R26). -/
def Tables.factory (strap : BitVec 5) : Tables where
  keyMap := tabulate 512 (fun i => wordOf (factoryKeyMap i))
  contactProfile := tabulate 28 (fun i => wordOf (factoryProfile i))
  wheelAssignment := tabulate 1323 (fun i => wordOf (factoryAssignment i))
  wheelPitch := tabulate 96 (fun i => BitVec.ofNat 24 (factoryPitch i))
  wheelVoicing := tabulate 96 (fun i => wordOf (factoryVoicing i))
  busLoadCurve := tabulate 16 (fun i => wordOf (factoryLoadCurve i))
  drawbarLaw := tabulate 9 (fun i => wordOf (factoryLaw i))
  presets := tabulate 432 (fun i => wordOf (factoryPresets i))
  expressionCurve := tabulate 128 (fun i => wordOf (factoryExpression i))
  faultConfiguration := tabulate 8 (fun i => wordOf (factoryFaults i))
  linkSettings := tabulate 4 (fun i => wordOf (factoryLink strap i))
  playSettings := tabulate 16 (fun i => wordOf (factoryPlay i))
  rotorSettings := tabulate 16 (fun i => wordOf (factoryRotor i))
  outputSettings := tabulate 12 (fun i => wordOf (factoryOutput i))

end Sys2Proof.Machine
end

