-- ==== Sys2Proof/Machine/Flags.lean ====
section
/-!
DEFINITION. What the part computes as a check or a summary: a link word's parity, a frame's check
word, the kinds of action in force, FAULT and WARN, the mute request, the notice state.
-/

namespace Sys2Proof.Machine

/-! ### Link words and check words -/

/-- The bit numbers of a word in the order sent, bit 15 first (R1). -/
def sendOrder : List Nat := [15, 14, 13, 12, 11, 10, 9, 8, 7, 6, 5, 4, 3, 2, 1, 0]

/-- Exclusive-or over the data bits of a word. -/
def dataParity (w : Word) : Bool := sendOrder.foldl (fun p i => xor p (w.getLsbD i)) false

/-- A good word: start level low, stop level high, and an odd number of ones over the data, marker
and parity bits (R1). -/
def goodWord (w : LinkWord) : Bool :=
  !w.startHigh && w.stopHigh && xor (xor (dataParity w.data) w.marker) w.parity

/-- A word as a sender puts it on the line: start and stop level as they should be and odd parity
(R1). -/
def wordOnLink (marker : Bool) (w : Word) : LinkWord :=
  ⟨false, w, marker, !xor (dataParity w) marker, true⟩

/-- The words of a frame, or an idle word, as a sender puts them on the line: the header with its marker
set, the rest with it clear (R2, R12). -/
def frameOnLink : List Word → List LinkWord
  | [] => []
  | header :: rest => wordOnLink true header :: rest.map (wordOnLink false)

/-- One data bit into the check register: feedback is bit 15 exclusive-or the data bit; shift toward
bit 15; with feedback, exclusive-or ones into bits 12, 5 and 0 (R4). -/
def crcBit (reg : Word) (bit : Bool) : Word :=
  let feedback := xor (reg.getLsbD 15) bit
  let shifted := reg <<< 1
  if feedback then shifted ^^^ 0x1021 else shifted

/-- The sixteen data bits of a word into the check register (R4). -/
def crcWord (reg : Word) (w : Word) : Word :=
  sendOrder.foldl (fun r i => crcBit r (w.getLsbD i)) reg

/-- The check value of the header and payload words, from an initial value of all ones (R4). -/
def checkValue (ws : List Word) : Word := ws.foldl crcWord 0xFFFF

/-- The words of a whole frame of the part's own making: header, payload, check word (R2, R4). -/
def frameWords (station kind : Nat) (tag : BitVec 3) (payload : List Word) : List Word :=
  let ws := headerWord station kind payload.length tag.toNat :: payload
  ws ++ [checkValue ws]

/-- A frame received whole passes its check (R4): the check value over its words but the last equals
the last. -/
def checkPasses (ws : List Word) : Bool := checkValue ws.dropLast == ws.getLastD 0

/-! ### Faults -/

/-- The eight fault kinds in numbered order (R179). -/
def allKinds : List FaultKind :=
  [.linkLost, .consoleSilence, .engineShortage, .clockFallback,
   .scheduleFull, .outputLimit, .strayOverflow, .linkErrors]

/-- The record of a fault kind. -/
def State.record (s : State) (k : FaultKind) : FaultRecord := s.flt.records[k.toFin]

/-- The mode in force of a fault kind (R180). -/
def State.faultMode (s : State) (k : FaultKind) : FaultMode :=
  faultModeOfWord s.tab.faultConfiguration[k.toFin]

/-- The configured action of a fault kind (R180). -/
def State.faultAction (s : State) (k : FaultKind) : Action :=
  faultActionOfWord s.tab.faultConfiguration[k.toFin]

/-- A kind of action is in force while at least one record holds it (R182). -/
def State.inForce (s : State) (a : Action) : Bool :=
  allKinds.any (fun k => (s.record k).held == some a)

/-- What the HOLD flag shall be (R49, R182). -/
def State.holdWanted (s : State) : Bool := s.inForce .hold

/-- What the mute request shall be: INITIALIZING or STANDBY, or MUTE in force (R170). -/
def State.muteWanted (s : State) : Bool := (s.req.opState != .playing) || s.inForce .mute

/-- What FAULT shall be: any kind of action in force, or a LATCHED record's flag set (R186). -/
def State.faultWanted (s : State) : Bool :=
  s.inForce .mute || s.inForce .release || s.inForce .hold ||
    allKinds.any (fun k => s.faultMode k == .latched && (s.record k).flag)

/-- The outputs in order O1 to O4. -/
def allOutputs : List OutputId := [0, 1, 2, 3]

/-- Some output's limit flag is set (R177). -/
def State.anyLimitFlag (s : State) : Bool := allOutputs.any (fun o => s.out.limiters[o].flag)

/-- What WARN shall be: a flag set in a mode other than LATCHED, or a limit flag (R186). -/
def State.warnWanted (s : State) : Bool :=
  allKinds.any (fun k => s.faultMode k != .latched && (s.record k).flag) || s.anyLimitFlag

/-- The ALERT pin is driven while FAULT is set (R186). -/
def State.alert (s : State) : Bool := s.flt.fault

/-- The notice state (R188). -/
structure NoticeState where
  flags : List Bool
  mute : Bool
  release : Bool
  hold : Bool
  limits : List Bool
  opState : OpState
  deriving DecidableEq, Repr

/-- The notice state as it stands (R188). -/
def State.noticeState (s : State) : NoticeState where
  flags := allKinds.map (fun k => (s.record k).flag)
  mute := s.inForce .mute
  release := s.inForce .release
  hold := s.inForce .hold
  limits := allOutputs.map (fun o => s.out.limiters[o].flag)
  opState := s.req.opState

/-- The code of an operating state (R22, R24). -/
def opStateCode : OpState → Nat
  | .initializing => 0
  | .standby => 1
  | .playing => 2

/-- The three payload words of a NOTICE (R22, R190). -/
def State.noticeWords (s : State) : List Word :=
  [wordOf ((allKinds.map (fun k => flagAt (s.record k).flag k.toFin.val)).sum),
   wordOf ((allOutputs.map (fun o => flagAt s.out.limiters[o].flag (4 + o.val))).sum
     + flagAt (s.inForce .hold) 2 + flagAt (s.inForce .release) 1 + flagAt (s.inForce .mute) 0),
   wordOf (flagAt s.flt.fault 15 + flagAt s.flt.warn 14 + opStateCode s.req.opState)]

end Sys2Proof.Machine
end

