-- ==== Sys2Proof/Machine/Ops.lean ====
section
/-!
DEFINITION. The named operations every block shares: replacing one block of the state, timers,
counters, the Reply Queue.
-/

namespace Sys2Proof.Machine

/-! ### Replacing one block of the state -/

/-- The state with another LinkUnit. -/
def State.setLnk (s : State) (b : LinkUnit) : State := { s with lnk := b }

/-- The state with another RequestUnit. -/
def State.setReq (s : State) (b : RequestUnit) : State := { s with req := b }

/-- The state with another Tables. -/
def State.setTab (s : State) (b : Tables) : State := { s with tab := b }

/-- The state with another KeyUnit. -/
def State.setKey (s : State) (b : KeyUnit) : State := { s with key := b }

/-- The state with another Sequencer. -/
def State.setSeq (s : State) (b : Sequencer) : State := { s with seq := b }

/-- The state with another BusMatrix. -/
def State.setBus (s : State) (b : BusMatrix) : State := { s with bus := b }

/-- The state with another EngineCache. -/
def State.setEng (s : State) (b : EngineCache) : State := { s with eng := b }

/-- The state with another Registration. -/
def State.setReg (s : State) (b : Registration) : State := { s with reg := b }

/-- The state with another Percussion. -/
def State.setPrc (s : State) (b : Percussion) : State := { s with prc := b }

/-- The state with another RotorUnit. -/
def State.setRot (s : State) (b : RotorUnit) : State := { s with rot := b }

/-- The state with another OutputUnit. -/
def State.setOut (s : State) (b : OutputUnit) : State := { s with out := b }

/-- The state with another FaultUnit. -/
def State.setFlt (s : State) (b : FaultUnit) : State := { s with flt := b }

/-- The state with another Counters. -/
def State.setCnt (s : State) (b : Counters) : State := { s with cnt := b }

/-! ### Timers -/

/-- The timer's addition of this tick is still to be made. -/
def Timer.due (t : Timer) : Bool := t.running && !t.ticked

/-- The timer adds one at this tick. -/
def Timer.add (t : Timer) : Timer := { t with count := t.count + 1, ticked := true }

/-- A new tick begins: the timer's addition is to be made again. -/
def Timer.newTick (t : Timer) : Timer := { t with ticked := false }

/-! ### What the present tick and settings are -/

/-- The present tick is a control period boundary of the Rotor Unit and of the output stage
(R156, R172). -/
def State.atBoundary (s : State) : Bool := s.seq.tickCount.toNat % 64 == 0

/-- The station number in force, entry 0 of Link Settings (R17, R18). -/
def State.station (s : State) : Nat := bitsOf s.tab.linkSettings[0] 4 0

/-- Entry i of Play Settings as a number. -/
def State.playSetting (s : State) (i : Fin 16) : Nat := s.tab.playSettings[i].toNat

/-- Entry i of Rotor Settings as a number. -/
def State.rotorSetting (s : State) (i : Fin 16) : Nat := s.tab.rotorSettings[i].toNat

/-- The notice enable (R189). -/
def State.noticeEnable (s : State) : Bool := s.tab.linkSettings[2].getLsbD 15

/-- The notice count (R189). -/
def State.noticeCount (s : State) : Nat := bitsOf s.tab.linkSettings[2] 2 0

/-- The notice time in control periods, 0 for no limit (R189). -/
def State.noticeTime (s : State) : Nat := bitsOf s.tab.linkSettings[3] 7 0

/-- The silence window in ticks; none when the code is 0 (R187). -/
def State.silenceWindow (s : State) : Option Nat :=
  match bitsOf s.tab.linkSettings[1] 2 0 with
  | 0 => none
  | code + 1 => some (512 * 2 ^ code)

/-! ### Counters -/

/-- Change the counters (R37). -/
def State.count (s : State) (f : Counters → Counters) : State := s.setCnt (f s.cnt)

/-! ### The Reply Queue (R10) -/

/-- The capacity of the Reply Queue in frames. -/
def replyCapacity : Nat := 4

/-- All four places are filled (R28). -/
def State.replyFull (s : State) : Bool := decide (replyCapacity ≤ s.lnk.replies.length)

/-- A place is free for a NOTICE: one that the request in hand does not hold for its own reply
(R28, R190; assumption log 12). -/
def State.noticePlace (s : State) : Bool :=
  decide (s.lnk.replies.length + (if s.lnk.replyHeld then 1 else 0) < replyCapacity)

/-- Hold a free place for the reply of the request in hand (R28). -/
def State.holdReplyPlace (s : State) : State := s.setLnk { s.lnk with replyHeld := true }

/-- A frame enters the Reply Queue whole (R10). -/
def State.queueFrame (s : State) (ws : List Word) : State :=
  s.setLnk { s.lnk with replies := s.lnk.replies ++ [ws] }

/-- The status codes (R29). -/
inductive Status
  | ok | accepted | badTable | badIndex | badValue | readOnly | wrongState | inUse | busy | badLength
  | unknownKind | unknownCommand | notReady
  deriving DecidableEq, Repr

/-- The number of a status code (R29). -/
def statusCode : Status → Nat
  | .ok => 0
  | .accepted => 1
  | .badTable => 2
  | .badIndex => 3
  | .badValue => 4
  | .readOnly => 5
  | .wrongState => 6
  | .inUse => 7
  | .busy => 8
  | .badLength => 9
  | .unknownKind => 10
  | .unknownCommand => 11
  | .notReady => 12

/-- The words of a REPLY: Kind 8, the station number in force now, the request's Tag; status and echo
in word 1, then the data (R10, R22, R29). -/
def State.replyWords (s : State) (tag : BitVec 3) (status : Status) (echo : Nat) (data : List Word) :
    List Word :=
  frameWords s.station 8 tag (requestWord (statusCode status) echo :: data)

/-- Queue a REPLY in the place held for it (R28). -/
def State.queueReply (s : State) (tag : BitVec 3) (status : Status) (echo : Nat) (data : List Word) :
    State :=
  s.setLnk { s.lnk with
    replies := s.lnk.replies ++ [s.replyWords tag status echo data]
    replyHeld := false }

/-- The state with another command queue, all else unchanged. -/
def State.setPending (s : State) (q : List Instr) : State := { s with pending := q }

end Sys2Proof.Machine
end

