-- ==== Sys2Proof/Machine/Notices.lean ====
section
/-!
DEFINITION. The Fault Unit's signals and notices: the summary and the signals that follow the records,
a notice falling due, an event of the notice state, a condition going absent
(11_faults_and_notices.md 11.2, 11.5, 11.7).
-/

namespace Sys2Proof.Machine

/-- Replace one fault record. -/
def State.setRecord (s : State) (k : FaultKind) (r : FaultRecord) : State :=
  s.setFlt { s.flt with records := s.flt.records.set k.toFin r }

/-- The HOLD flag, the mute request, FAULT and WARN as the records, the limit flags and the operating
state now call for (R49, R170, R182, R186). -/
def State.refresh (s : State) : State :=
  ((s.setKey { s.key with hold := s.holdWanted }).setOut
    { s.out with muteRequest := s.muteWanted }).setFlt
    { s.flt with fault := s.faultWanted, warn := s.warnWanted }

/-- Queue a NOTICE with the notice state of this moment (R190). -/
def State.queueNotice (s : State) : State :=
  let s := s.queueFrame (frameWords s.station 9 0 s.noticeWords)
  s.setFlt { s.flt with pendingChanges := 0, noticeTimer := Timer.start, waiting := false }

/-- The condition under which a notice falls due (R189); none is counted or queued in INITIALIZING
(R191). -/
def State.noticeDue (s : State) : Bool :=
  s.noticeEnable && (s.req.opState != .initializing) &&
    (decide (s.noticeCount ≤ s.flt.pendingChanges) ||
      (decide (1 ≤ s.flt.pendingChanges) && (s.noticeTime != 0) &&
        decide (64 * s.noticeTime ≤ s.flt.noticeTimer.count)))

/-- A notice that is due is queued when a place is free, and waits otherwise (R190). -/
def State.checkNotice (s : State) : State :=
  if s.noticeDue && !s.flt.waiting then
    if s.noticePlace then s.queueNotice else s.setFlt { s.flt with waiting := true }
  else s

/-- One change of the notice state is counted (R189). -/
def State.countChange (s : State) : State :=
  if s.noticeEnable && (s.req.opState != .initializing) then
    (s.setFlt { s.flt with pendingChanges := min 255 (s.flt.pendingChanges + 1) }).checkNotice
  else s

/-- An event that counts one change if it leaves the notice state different (R189). -/
def State.asEvent (f : State → State) (s : State) : State :=
  let t := f s
  if t.noticeState = s.noticeState then t else t.countChange

/-- A condition is reported absent (R181, R183). -/
def State.conditionAbsent (k : FaultKind) (s : State) : State :=
  let r := s.record k
  if r.present then
    s.setRecord k { r with
      present := false
      retry := if s.faultMode k == .autoRetry && r.held.isSome then Timer.start else r.retry }
  else s

end Sys2Proof.Machine
end

