-- ==== Sys2Proof/Machine/Engines.lean ====
section
/-!
DEFINITION. The Engine Cache's own operations: the store queue, hand-over, demand up, demand down,
completions, flush and settling (06_wheel_engines.md).
-/

namespace Sys2Proof.Machine

namespace EngineCache

/-- Replace one engine record. -/
def setEngine (c : EngineCache) (e : EngineId) (r : Engine) : EngineCache :=
  { c with engines := c.engines.set e r }

/-- Change a wheel's bound engine (R94). -/
def bindWheel (c : EngineCache) (w : Wheel) (b : Option EngineId) : EngineCache :=
  { c with store := c.store.set w { c.store[w] with bound := b } }

/-- Change a wheel's stored tone state (R94). -/
def storeTone (c : EngineCache) (w : Wheel) (t : ToneState) : EngineCache :=
  { c with store := c.store.set w { c.store[w] with tone := t } }

/-- Queue a store request; one queued into an empty queue is the head from this tick (R98). -/
def enqueue (c : EngineCache) (r : StoreRequest) : EngineCache :=
  { c with queue := c.queue ++ [r], storeReady := c.storeReady && !c.queue.isEmpty }

/-- The engine enters LOADING with a wheel, which it is bound to, and queues the LOAD (R98, R99,
R101). Its dirty flag is not touched (R106; assumption log 16). -/
def startLoad (c : EngineCache) (e : EngineId) (w : Wheel) : EngineCache :=
  ((c.setEngine e { c.engines[e] with state := .loading, wheel := some w, settle := 0, next := none }).bindWheel
    w (some e)).enqueue ⟨e, .load, w⟩

/-- The engine enters WRITING_BACK of its wheel v, which is unbound, with a next wheel or none, and
queues the WRITE_BACK (R94, R99, R101, R111). -/
def startWriteBack (c : EngineCache) (e : EngineId) (v : Wheel) (next : Option Wheel) : EngineCache :=
  let c := (c.bindWheel v none).setEngine e
    { c.engines[e] with state := .writingBack, settle := 0, next := next }
  let c := match next with
    | some n => c.bindWheel n (some e)
    | none => c
  c.enqueue ⟨e, .writeBack, v⟩

/-- The engine becomes FREE, clean, and joins the tail of the Free List (R96, R104). -/
def freeEngine (c : EngineCache) (e : EngineId) : EngineCache :=
  { c.setEngine e { c.engines[e] with
      state := .free, wheel := none, dirty := false, settle := 0, next := none } with
    free := c.free ++ [e] }

/-- The engine would become FREE: it does, or is handed over to the head of the Starved Wheel List
(R99, R104). -/
def wouldFree (c : EngineCache) (e : EngineId) : EngineCache :=
  match c.starved with
  | [] => c.freeEngine e
  | h :: rest =>
    ({ c with starved := rest }.setEngine e { c.engines[e] with dirty := false }).startLoad e h

/-- The engine, keeping wheel w, would become IDLE: it does, or is handed over (R99, R102, R103). -/
def wouldIdle (c : EngineCache) (e : EngineId) (w : Wheel) : EngineCache :=
  match c.starved with
  | [] =>
    { c.setEngine e { c.engines[e] with state := .idle, settle := 0, ticked := true } with
      lru := e :: c.lru }
  | h :: rest =>
    let c := { c with starved := rest }
    if (c.engines[e]).dirty then c.startWriteBack e w (some h)
    else (c.bindWheel w none).startLoad e h

/-- DEMAND DOWN of a wheel (R102). -/
def demandDown (c : EngineCache) (w : Wheel) : EngineCache :=
  match (c.store[w]).bound with
  | some e => if (c.engines[e]).state = .active then c.wouldIdle e w else c
  | none => { c with starved := c.starved.filter (fun v => v != w) }

/-- What a demand up came to (R100, R101). -/
inductive Served
  | hit | cleanMiss | dirtyMiss | shortage | waiting
  deriving DecidableEq, Repr

/-- The engine of a newly demanded wheel is revived (R100). -/
def revive (c : EngineCache) (e : EngineId) : EngineCache :=
  { c.setEngine e { c.engines[e] with state := .active, settle := 0 } with
    lru := c.lru.filter (fun x => x != e) }

/-- The LRU tail is evicted for wheel w (R101). -/
def evict (c : EngineCache) (e : EngineId) (w : Wheel) : EngineCache × Served :=
  let c := { c with lru := c.lru.dropLast }
  let r := c.engines[e]
  match r.wheel with
  | none => (c.startLoad e w, .cleanMiss)
  | some v =>
    if r.dirty then (c.startWriteBack e v (some w), .dirtyMiss)
    else ((c.bindWheel v none).startLoad e w, .cleanMiss)

/-- An allocation for wheel w: the Free List, then the LRU List, then the Starved Wheel List (R101). -/
def allocate (c : EngineCache) (w : Wheel) : EngineCache × Served :=
  match c.free with
  | e :: rest => ({ c with free := rest }.startLoad e w, .cleanMiss)
  | [] =>
    match c.lru.getLast? with
    | some e => c.evict e w
    | none => ({ c with starved := c.starved ++ [w] }, .shortage)

/-- DEMAND UP of a wheel (R100). -/
def demandUp (c : EngineCache) (w : Wheel) : EngineCache × Served :=
  match (c.store[w]).bound with
  | some e => if (c.engines[e]).state = .idle then (c.revive e, .hit) else (c, .waiting)
  | none => c.allocate w

/-- The head request leaves the queue; no other completes at this tick (R98). -/
def popRequest (c : EngineCache) : EngineCache := { c with queue := c.queue.tail, storeReady := false }

/-- A LOAD of wheel w by engine e completes (R103). -/
def loadComplete (c : EngineCache) (e : EngineId) (w : Wheel) (demanded : Bool) : EngineCache :=
  let c := c.popRequest.setEngine e { c.engines[e] with tone := (c.store[w]).tone, dirty := false }
  if demanded then c.setEngine e { c.engines[e] with state := .active }
  else c.wouldIdle e w

/-- A WRITE_BACK of wheel v by engine e completes; `demanded` tells which wheels have demand (R104). -/
def writeBackComplete (c : EngineCache) (e : EngineId) (v : Wheel) (demanded : Wheel → Bool) :
    EngineCache :=
  let r := c.engines[e]
  let c := (c.popRequest.storeTone v r.tone).setEngine e { r with wheel := none }
  match r.next with
  | none => c.wouldFree e
  | some n => if demanded n then c.startLoad e n else (c.bindWheel n none).wouldFree e

/-- A flush write-back is under way: an engine is WRITING_BACK without a next wheel (R112). -/
def flushing (c : EngineCache) : Bool :=
  c.engines.any (fun r => r.state == .writingBack && r.next == none)

/-- One IDLE engine is flushed (R111). -/
def flushOne (c : EngineCache) (e : EngineId) : EngineCache :=
  let r := c.engines[e]
  match r.wheel with
  | none => c.freeEngine e
  | some v => if r.dirty then c.startWriteBack e v none else (c.bindWheel v none).freeEngine e

/-- FLUSH_ENGINES takes every engine off the LRU List, tail first (R111). -/
def flush (c : EngineCache) : EngineCache :=
  c.lru.reverse.foldl flushOne { c with lru := [] }

/-- An engine takes its settle tick (R107). -/
def settleTick (c : EngineCache) (e : EngineId) : EngineCache :=
  let r := c.engines[e]
  if r.state = .idle ∧ r.ticked = false then
    if r.settle = 255 then
      let c := c.setEngine e { r with
        settle := 256, ticked := true, dirty := false, tone := ToneState.rest }
      match r.wheel with
      | some w => if r.dirty then c.storeTone w ToneState.rest else c
      | none => c
    else c.setEngine e { r with settle := min 256 (r.settle + 1), ticked := true }
  else c

end EngineCache

end Sys2Proof.Machine
end

