-- ==== Sys2Proof/Machine/Percussion.lean ====
section
/-!
DEFINITION. The percussion envelope and switches, and the scanner settings
(08_percussion_and_scanner.md 8.1, 8.2, 8.5).
-/

namespace Sys2Proof.Machine

/-- The state of a key. -/
def State.keyState (s : State) (k : KeyId) : KeyState := (s.key.records[k]).state

/-- Every key of a manual is UP. -/
def State.manualUp (s : State) (m : Manual) : Bool :=
  (manualKeys m).all (fun k => s.keyState k == .up)

namespace Percussion

/-- The envelope in a state with level 0 and the halving timer stopped. -/
def silent (p : Percussion) (e : EnvelopeState) : Percussion :=
  { p with envelope := e, level := 0, halving := Timer.stopped }

/-- PHRASE START of UPPER (R137). -/
def phraseStart (p : Percussion) : Percussion :=
  if p.envelope = .armed then p.silent .sounding else p

/-- MANUAL FULLY UP of UPPER (R140). -/
def fullyUp (p : Percussion) : Percussion :=
  if p.envelope = .off then p else p.silent .armed

/-- PERCUSSION CONTACT CLOSED: a waiting envelope is struck (R138). -/
def contactClosed (p : Percussion) : Percussion :=
  if p.envelope = .sounding ∧ p.halving.running = false then
    { p with level := if p.soft then 2048 else 4095, halving := Timer.start }
  else p

/-- Control 49 (R141); `allUp` tells whether every UPPER key is UP. -/
def moveEnable (p : Percussion) (on : Bool) (allUp : Bool) : Percussion :=
  if on = p.enable then p
  else if on then { p.silent (if allUp then .armed else .spent) with enable := true }
  else { p.silent .off with enable := false }

/-- Controls 50, 51 and 52 (R135). -/
def moveSwitch (p : Percussion) (which : PercussionControl) (on : Bool) : Percussion :=
  match which with
  | .level => { p with soft := on }
  | .decay => { p with slow := on }
  | .harmonic => { p with third := on }

/-- Controls 56, 57 and 58 (R148). -/
def moveScanner (p : Percussion) (which : ScannerControl) (value : Nat) : Percussion :=
  match which with
  | .mode => { p with setting := { p.setting with mode := Fin.ofNat 7 value } }
  | .onUpper => { p with setting := { p.setting with onUpper := value == 1 } }
  | .onLower => { p with setting := { p.setting with onLower := value == 1 } }

/-- The halving timer takes its tick under a halving period (R139). -/
def halvingTick (p : Percussion) (period : Nat) : Percussion :=
  if p.halving.due then
    let t := p.halving.add
    if period ≤ t.count then
      if p.level / 2 < 16 then p.silent .spent
      else { p with level := p.level / 2, halving := Timer.start }
    else { p with halving := t }
  else p

/-- The envelope gain under a halving period (R139). -/
def gain (p : Percussion) (period : Nat) : Nat :=
  if p.envelope = .sounding ∧ p.halving.running then
    p.level * (2 * period - min p.halving.count period) / (2 * period)
  else 0

end Percussion

/-- The halving period in force (R139). -/
def State.halvingPeriod (s : State) : Nat :=
  if s.prc.slow then s.playSetting 5 else s.playSetting 4

end Sys2Proof.Machine
end

