-- ==== Sys2Proof/Machine/Contacts.lean ====
section
/-!
DEFINITION. Contacts that open: the counts and demand they lower, the clicks they start, and the
release of a manual (03_keys_and_the_key_map.md 3.8, 04_contact_sequencing.md 4.6,
05_the_bus_matrix.md).
-/

namespace Sys2Proof.Machine

/-- A contact of a key. -/
def State.contact (s : State) (k : KeyId) (c : ContactId) : Contact := (s.key.records[k]).contacts[c]

/-- Replace a key record. -/
def State.setKeyRecord (s : State) (k : KeyId) (r : KeyRecord) : State :=
  s.setKey { s.key with records := s.key.records.set k r }

/-- Change a key's state. -/
def State.setKeyState (s : State) (k : KeyId) (st : KeyState) : State :=
  s.setKeyRecord k { s.key.records[k] with state := st }

/-- Change a contact of a key. -/
def State.setContact (s : State) (k : KeyId) (c : ContactId) (x : Contact) : State :=
  s.setKeyRecord k { s.key.records[k] with contacts := (s.key.records[k]).contacts.set c x }

/-- The count for a bus and a wheel (R76). -/
def BusMatrix.countOf (b : BusMatrix) (row : BusRow) (w : Wheel) : Nat := (b.counts[row])[w]

/-- One count and its wheel's demand take new values (R77, R78). -/
def BusMatrix.setCount (b : BusMatrix) (row : BusRow) (w : Wheel) (n d : Nat) : BusMatrix :=
  { b with counts := b.counts.set row ((b.counts[row]).set w n), demand := b.demand.set w d }

/-- The most click pulses the collection holds (R88). -/
def clickCapacity : Nat := 32

/-- Start a click pulse; the oldest leaves when 32 are held (R88). -/
def State.startClick (s : State) (m : Manual) (positive : Bool) : State :=
  let l := s.bus.clicks ++ [⟨m, s.seq.tickCount, positive⟩]
  s.setBus { s.bus with clicks := l.drop (l.length - clickCapacity) }

/-- The Engine Cache takes a new value; ENGINE_SHORTAGE goes absent when its Starved Wheel List has
become empty (R99, R102, R110). -/
def State.setEngEasing (s : State) (c : EngineCache) : State :=
  let s' := s.setEng c
  if !s.eng.starved.isEmpty && c.starved.isEmpty then s'.conditionAbsent .engineShortage else s'

/-- A count goes down by one, with the demand signal that follows (R77, R78, R79). Under the law of R76
a decrement finds the count above 0. -/
def State.countDown (s : State) (row : BusRow) (w : Wheel) : State :=
  let n := s.bus.countOf row w
  let d := s.bus.demand[w]
  if n = 0 then s
  else
    let s' := s.setBus (s.bus.setCount row w (n - 1) (d - 1))
    if d = 1 then s'.setEngEasing (s'.eng.demandDown w) else s'

/-- An OPEN of a contact (R70). -/
def State.applyOpen (k : KeyId) (c : ContactId) (s : State) : State :=
  match s.contact k c with
  | .opened => s
  | .closed none => s.setContact k c .opened
  | .closed (some w) =>
    ((s.setContact k c .opened).countDown (contactRow (keyManual k) c) w).startClick (keyManual k) false

/-- MANUAL FULLY UP of UPPER reaches Percussion and Scanner (R58, R140). -/
def State.manualFullyUp (s : State) : State := s.setPrc s.prc.fullyUp

/-- Open the closed contacts of a key in contact order (R55). -/
def State.openKey (k : KeyId) (s : State) : State :=
  (contactsOf k).foldl (fun s c => s.applyOpen k c) s

/-- Every key record of a manual becomes UP, its travel kept (R55). -/
def State.makeUp (m : Manual) (s : State) : State :=
  (manualKeys m).foldl (fun s k => s.setKeyState k .up) s

/-- The release of one manual (R55). -/
def State.releaseManual (m : Manual) (s : State) : State :=
  let wasUp := s.manualUp m
  let s := s.setSeq { s.seq with schedule := s.seq.schedule.filter (fun x => keyManual x.key != m) }
  let s := (manualKeys m).foldl (fun s k => s.openKey k) s
  let s := s.makeUp m
  if m = .upper ∧ wasUp = false then s.manualFullyUp else s

/-- A release of named manuals, in the order UPPER, LOWER, PEDAL (R55, R56). -/
def State.release (ms : List Manual) (s : State) : State :=
  ms.foldl (fun s m => s.releaseManual m) s

end Sys2Proof.Machine
end

