-- ==== Sys2Proof/Machine/Faults.lean ====
section
/-!
DEFINITION. The fault records: occurrence, actions, recovery, CLEAR_FAULTS and reconfiguration
(11_faults_and_notices.md 11.2 to 11.4).
-/

namespace Sys2Proof.Machine

/-- A record's action takes force: the signals follow, and RELEASE releases all three manuals (R182). -/
def State.takeForce (a : Action) (s : State) : State :=
  let s := s.refresh
  if a = .release then s.release allManuals else s

/-- What a record does at an occurrence, by its mode in force (R181). -/
def State.occur (k : FaultKind) (s : State) : State :=
  let r := s.record k
  match s.faultMode k with
  | .disabled => s
  | .reportOnly => (s.setRecord k { r with flag := true }).refresh
  | _ =>
    match r.held with
    | some _ => (s.setRecord k { r with flag := true, retry := Timer.stopped }).refresh
    | none =>
      let a := s.faultAction k
      (s.setRecord k { r with flag := true, held := some a, retry := Timer.stopped }).takeForce a

/-- A condition is reported present; in INITIALIZING it is only remembered (R181, R191). -/
def State.conditionPresent (k : FaultKind) (s : State) : State :=
  let r := s.record k
  if r.present then s
  else
    let s := s.setRecord k { r with present := true }
    if s.req.opState = .initializing then s else s.asEvent (State.occur k)

/-- An event is raised; in INITIALIZING it is discarded (R181, R191). -/
def State.raiseEvent (k : FaultKind) (s : State) : State :=
  if s.req.opState = .initializing then s else s.asEvent (State.occur k)

/-- A record's episode ends (R183). -/
def State.endEpisode (k : FaultKind) (s : State) : State :=
  (s.setRecord k { s.record k with held := none, retry := Timer.stopped }).refresh

/-- The retry timer of a record takes its tick (R183). -/
def State.retryTick (k : FaultKind) (s : State) : State :=
  let r := s.record k
  if r.retry.due then
    let s' := s.setRecord k { r with retry := r.retry.add }
    if 256 * s.playSetting 13 ≤ r.retry.count + 1 then s'.asEvent (State.endEpisode k) else s'
  else s

/-- All eight retry timers take their tick. -/
def State.retryTicks (s : State) : State := allKinds.foldl (fun s k => s.retryTick k) s

/-- CLEAR_FAULTS on one record (R184). -/
def State.clearRecord (k : FaultKind) (s : State) : State :=
  let r := s.record k
  if r.present then s
  else s.setRecord k { r with
    flag := false
    held := if s.faultMode k = .latched then none else r.held }

/-- Every limit flag becomes clear (R177). -/
def State.clearLimitFlags (s : State) : State :=
  s.setOut { s.out with limiters := s.out.limiters.map (fun l => { l with flag := false }) }

/-- CLEAR_FAULTS at the Fault Unit (R184). -/
def State.clearFaults (s : State) : State :=
  s.asEvent (fun s => (allKinds.foldl (fun s k => s.clearRecord k) s).clearLimitFlags.refresh)

/-- Steps 1 to 4 of a reconfiguration, for a mode that has changed (R185). The new entry is already in
the table. -/
def State.reconfigureMode (k : FaultKind) (s : State) : State :=
  let r := s.record k
  match s.faultMode k, r.held with
  | .reportOnly, _ => s.setRecord k { r with held := none, retry := Timer.stopped }
  | .disabled, _ => s.setRecord k { r with held := none, retry := Timer.stopped, flag := false }
  | .latched, some _ => s.setRecord k { r with retry := Timer.stopped }
  | .autoRetry, some _ =>
    s.setRecord k { r with retry := if r.present then Timer.stopped else Timer.start }
  | _, none => if r.present then s.occur k else s

/-- Step 5 of a reconfiguration: a new action with the episode still held (R185). -/
def State.reconfigureAction (k : FaultKind) (s : State) : State :=
  let r := s.record k
  match r.held with
  | some _ => (s.setRecord k { r with held := some (s.faultAction k) }).takeForce (s.faultAction k)
  | none => s

/-- Replace an entry of the Fault Configuration. -/
def State.setFaultEntry (k : FaultKind) (w : Word) (s : State) : State :=
  s.setTab { s.tab with faultConfiguration := s.tab.faultConfiguration.set k.toFin w }

/-- A Fault Configuration entry is written or restored (R185). -/
def State.reconfigure (k : FaultKind) (w : Word) (s : State) : State :=
  let held := (s.record k).held.isSome
  let t := s.setFaultEntry k w
  let t := if s.faultMode k = faultModeOfWord w then t else t.reconfigureMode k
  let t := if held ∧ s.faultAction k ≠ faultActionOfWord w then t.reconfigureAction k else t
  t.refresh

end Sys2Proof.Machine
end

