-- ==== Sys2Proof/Machine/Registration.lean ====
section
/-!
DEFINITION. Registration: drawbar moves, presets, glides, the phrase start of a manual
(07_registration.md 7.2 to 7.5).
-/

namespace Sys2Proof.Machine

/-- Entry i of a table of one-word entries. -/
def wordAt (v : Vector Word n) (i : Nat) : Word := (v[i]?).getD 0

/-- The level of bus Bn in preset p of a manual (R122). -/
def State.presetLevel (s : State) (m : Manual) (p : Fin 16) (n : Nat) : Nat :=
  (wordAt s.tab.presets (m.toFin.val * 144 + p.val * 9 + n)).toNat

/-- The drawbar records of a manual. -/
def Registration.manualBars (r : Registration) (m : Manual) : Vector Drawbar 9 := r.drawbars[m.toFin]

/-- Replace one manual's drawbars, glide timer and Pending Registration. -/
def Registration.setManual (r : Registration) (m : Manual) (bars : Vector Drawbar 9) (t : Timer)
    (p : Option (Fin 16)) : Registration :=
  { r with
    drawbars := r.drawbars.set m.toFin bars
    glide := r.glide.set m.toFin t
    pendingReg := r.pendingReg.set m.toFin p }

/-- Some drawbar has a glide target. -/
def anyTarget (bars : Vector Drawbar 9) : Bool := bars.any (fun b => b.target.isSome)

/-- A preset is applied to a manual at once (R123, R128). -/
def State.selectNow (m : Manual) (p : Fin 16) (s : State) : State :=
  s.setReg (s.reg.setManual m (tabulate 9 (fun n => ⟨s.presetLevel m p n, none⟩)) Timer.stopped none)

/-- A drawbar's record when a glide toward a level is selected (R124). -/
def Drawbar.aim (b : Drawbar) (level : Nat) : Drawbar :=
  { b with target := if b.level = level then none else some level }

/-- SELECT_PRESET in mode GLIDE (R124). -/
def State.selectGlide (m : Manual) (p : Fin 16) (s : State) : State :=
  let bars := (s.reg.manualBars m).mapIdx (fun n b => b.aim (s.presetLevel m p n))
  s.setReg (s.reg.setManual m bars (if anyTarget bars then Timer.start else Timer.stopped) none)

/-- SELECT_PRESET in mode NEXT_PLAY (R127). -/
def State.selectNextPlay (m : Manual) (p : Fin 16) (s : State) : State :=
  s.setReg (s.reg.setManual m ((s.reg.manualBars m).map (fun b => { b with target := none }))
    Timer.stopped (some p))

/-- A drawbar move (R120). -/
def State.moveDrawbar (m : Manual) (n : Fin 9) (value : Nat) (s : State) : State :=
  let bars := (s.reg.manualBars m).set n ⟨value, none⟩
  s.setReg (s.reg.setManual m bars
    (if anyTarget bars then s.reg.glide[m.toFin] else Timer.stopped) s.reg.pendingReg[m.toFin])

/-- One glide step of a drawbar (R125). -/
def Drawbar.glideStep (b : Drawbar) : Drawbar :=
  match b.target with
  | none => b
  | some t =>
    let level := if b.level < t then b.level + 1 else if t < b.level then b.level - 1 else b.level
    ⟨level, if level = t then none else some t⟩

/-- A manual's glide timer takes its tick (R125). -/
def State.glideTick (m : Manual) (s : State) : State :=
  let t := s.reg.glide[m.toFin]
  let p := s.reg.pendingReg[m.toFin]
  if t.due then
    if 64 * s.playSetting 11 ≤ t.count + 1 then
      let bars := (s.reg.manualBars m).map Drawbar.glideStep
      s.setReg (s.reg.setManual m bars (if anyTarget bars then Timer.start else Timer.stopped) p)
    else s.setReg (s.reg.setManual m (s.reg.manualBars m) t.add p)
  else s

/-- PHRASE START of a manual: a pending preset is applied, and an UPPER phrase reaches the percussion
envelope (R58, R128, R137). -/
def State.phraseStart (m : Manual) (s : State) : State :=
  let s := match s.reg.pendingReg[m.toFin] with
    | some p => s.selectNow m p
    | none => s
  if m = .upper then s.setPrc s.prc.phraseStart else s

/-- Registration at a soft reset (R134). -/
def Registration.softReset (r : Registration) : Registration where
  drawbars := r.drawbars.map (fun bars => bars.map (fun b => { b with target := none }))
  glide := Vector.replicate 3 Timer.stopped
  pendingReg := Vector.replicate 3 none
  expression := r.expression

end Sys2Proof.Machine
end

