-- ==== Sys2Proof/Machine/Rotors.lean ====
section
/-!
DEFINITION. The rotors: targets, the brake, a rotor's tick (09_the_rotor_unit.md 9.1 to 9.6).
-/

namespace Sys2Proof.Machine

/-- The creep speed (R152). -/
def creepSpeed : Nat := 20

/-- The arrival state of a target (R153). -/
def arrivalState (sel : Selector) (brake : Bool) : RotorState :=
  match sel with
  | .slow => .slow
  | .fast => .fast
  | .stop => if brake then .parking else .stopped

/-- The target speed (R153). -/
def targetSpeed (sel : Selector) (brake : Bool) (slow fast : Nat) : Nat :=
  match sel with
  | .slow => slow
  | .fast => fast
  | .stop => if brake then creepSpeed else 0

/-- A rotor is retargeted (R153). -/
def Rotor.retarget (r : Rotor) (sel : Selector) (brake : Bool) (slow fast : Nat) : Rotor :=
  if sel = .stop ∧ r.state = .stopped then r
  else
    let target := targetSpeed sel brake slow fast
    let arrival := arrivalState sel brake
    { r with
      target := target
      state := if r.speed < target then .rising else if target < r.speed then .falling else arrival
      remainder := if r.speed = target ∧ arrival = .stopped then 0 else r.remainder }

/-- A rotor has come to its target: it enters its arrival state (R156). -/
def Rotor.arrive (r : Rotor) (arrival : RotorState) : Rotor :=
  { r with
    speed := r.target
    state := arrival
    remainder := if arrival = .stopped then 0 else r.remainder }

/-- A boundary step under a rise rate and a fall rate (R156). -/
def Rotor.boundaryStep (r : Rotor) (arrival : RotorState) (rise fall : Nat) : Rotor :=
  match r.state with
  | .rising => if r.target ≤ r.speed + rise then r.arrive arrival else { r with speed := r.speed + rise }
  | .falling => if r.speed ≤ r.target + fall then r.arrive arrival else { r with speed := r.speed - fall }
  | _ => r

/-- The position advance of one tick (R157). -/
def Rotor.advance (r : Rotor) : Rotor :=
  let sum := r.speed * 65536 + r.remainder
  { r with
    remainder := sum % 4800000
    position := r.position + wordOf (sum / 4800000) }

/-- The distance between two angles around the circle, in the shorter direction (R158). -/
def angleDistance (a b : Word) : Nat := min (a - b).toNat (b - a).toNat

/-- The parking check of one tick (R158). -/
def Rotor.parkingCheck (r : Rotor) (park : Word) : Rotor :=
  if r.state = .parking ∧ angleDistance r.position park ≤ 1024 then
    { r with state := .stopped, speed := 0, target := 0, remainder := 0 }
  else r

/-- A rotor of the Rotor Unit. -/
def RotorUnit.rotor (u : RotorUnit) : RotorId → Rotor
  | .horn => u.horn
  | .drum => u.drum

/-- Replace a rotor of the Rotor Unit. -/
def RotorUnit.setRotor (u : RotorUnit) (i : RotorId) (r : Rotor) : RotorUnit :=
  match i with
  | .horn => { u with horn := r }
  | .drum => { u with drum := r }

/-- A rotor's slow speed (R165). -/
def State.slowSpeed (s : State) : RotorId → Nat
  | .horn => s.rotorSetting 0
  | .drum => s.rotorSetting 4

/-- A rotor's fast speed (R165). -/
def State.fastSpeed (s : State) : RotorId → Nat
  | .horn => s.rotorSetting 1
  | .drum => s.rotorSetting 5

/-- A rotor's rise rate (R165). -/
def State.riseRate (s : State) : RotorId → Nat
  | .horn => s.rotorSetting 2
  | .drum => s.rotorSetting 6

/-- A rotor's fall rate (R165). -/
def State.fallRate (s : State) : RotorId → Nat
  | .horn => s.rotorSetting 3
  | .drum => s.rotorSetting 7

/-- A rotor is retargeted with the selector, the brake and its speeds as they stand (R153). -/
def State.retarget (i : RotorId) (s : State) : State :=
  s.setRot (s.rot.setRotor i
    ((s.rot.rotor i).retarget s.rot.selector s.rot.brake (s.slowSpeed i) (s.fastSpeed i)))

/-- Control 64 (R151, R153). -/
def State.moveSelector (sel : Selector) (s : State) : State :=
  if sel = s.rot.selector then s
  else ((s.setRot { s.rot with selector := sel }).retarget .horn).retarget .drum

/-- Control 65 (R151, R154). While the selector is STOP a rotor that is not STOPPED is retargeted. -/
def State.moveBrake (on : Bool) (s : State) : State :=
  if on = s.rot.brake then s
  else
    let s' := s.setRot { s.rot with brake := on }
    if s.rot.selector = .stop then (s'.retarget .horn).retarget .drum else s'

/-- A rotor's tick: the boundary step at a boundary, the advance, the parking check (R159). -/
def State.rotorTick (i : RotorId) (s : State) : State :=
  let r := s.rot.rotor i
  if r.ticked then s
  else
    let r := if s.atBoundary then
        r.boundaryStep (arrivalState s.rot.selector s.rot.brake) (s.riseRate i) (s.fallRate i)
      else r
    s.setRot (s.rot.setRotor i { r.advance.parkingCheck s.tab.rotorSettings[8] with ticked := true })

end Sys2Proof.Machine
end

