-- ==== Sys2Proof/Machine/Keys.lean ====
section
/-!
DEFINITION. Key events, the Contact Schedule and contacts that close (03_keys_and_the_key_map.md,
04_contact_sequencing.md).
-/

namespace Sys2Proof.Machine

/-! ### Contacts that close -/

/-- What a demand up adds to the Engine Cache's counters (R115). -/
def countServed (o : EngineCache.Served) (c : Counters) : Counters :=
  match o with
  | .hit => { c with hits := c.hits + 1 }
  | .cleanMiss => { c with cleanMisses := c.cleanMisses + 1 }
  | .dirtyMiss => { c with dirtyMisses := c.dirtyMisses + 1 }
  | .shortage => { c with shortages := c.shortages + 1 }
  | .waiting => c

/-- DEMAND UP of a wheel, with the report of ENGINE_SHORTAGE when a wheel joins an empty Starved Wheel
List (R79, R100, R101, R110). -/
def State.demandUp (w : Wheel) (s : State) : State :=
  let r := s.eng.demandUp w
  let s' := (s.setEng r.1).count (countServed r.2)
  if s.eng.starved.isEmpty && !r.1.starved.isEmpty then s'.conditionPresent .engineShortage else s'

/-- A count goes up by one, with the demand signal that follows (R77, R78, R79). -/
def State.countUp (s : State) (row : BusRow) (w : Wheel) : State :=
  let d := s.bus.demand[w]
  let s' := s.setBus (s.bus.setCount row w (s.bus.countOf row w + 1) (d + 1))
  if d = 0 then s'.demandUp w else s'

/-- The wheel that a CLOSE binds: the contact's Wheel Assignment entry; for CP, none while percussion
is disabled, else the B4 or B5 entry (R68, R69, R81). -/
def State.wheelToBind (s : State) (k : KeyId) (c : ContactId) : Option Wheel :=
  if h : c.val < 9 then wheelOfWord (wordAt s.tab.wheelAssignment (assignmentIndex k ⟨c.val, h⟩))
  else if s.prc.enable then
    wheelOfWord (wordAt s.tab.wheelAssignment (assignmentIndex k (if s.prc.third then 4 else 3)))
  else none

/-- The contact closes on a wheel or none; the count, the demand and the click follow (R68, R69). Where the
demand reports ENGINE_SHORTAGE and that is set to RELEASE, the release's OPENs, this contact's among them, are
made inside the CLOSE, before its own click: the spec leaves open whether the CLOSE is whole first (R71) or
the report is (R180), and the report first is the model's choice (assumption log 14). -/
def State.closeOn (k : KeyId) (c : ContactId) (b : Option Wheel) (s : State) : State :=
  let s := s.setContact k c (.closed b)
  match b with
  | none => s
  | some w => (s.countUp (contactRow (keyManual k) c) w).startClick (keyManual k) true

/-- A CLOSE of a contact; CP's signal comes last, also where a release has been made inside the CLOSE (R68,
R69; the model's choice, assumption log 14). -/
def State.applyClose (k : KeyId) (c : ContactId) (s : State) : State :=
  let s' := s.closeOn k c (s.wheelToBind k c)
  if c.val = 9 then s'.setPrc s'.prc.contactClosed else s'

/-- A transition is applied (R67). -/
def State.applyTransition (k : KeyId) (c : ContactId) (kind : Transition) (s : State) : State :=
  match kind with
  | .close => s.applyClose k c
  | .open_ => s.applyOpen k c

/-! ### The Contact Schedule -/

/-- The places of the schedule (R63). -/
def scheduleCapacity : Nat := 256

/-- The offset of a transition (R62). -/
def transitionOffset (kind : Transition) (travel point : Nat) : Nat :=
  match kind with
  | .close => 8 * travel * point / 256
  | .open_ => 8 * travel * (255 - point) / 256

/-- How far a due tick lies ahead of the Tick Count, with wrap (R60). -/
def ticksAhead (now due : Word) : Nat := (due - now).toNat

/-- Place an entry behind every entry due no later and in front of every entry due later (R63). -/
def placeEntry (now : Word) (x : ScheduleEntry) : List ScheduleEntry → List ScheduleEntry
  | [] => [x]
  | y :: ys =>
    if ticksAhead now y.due ≤ ticksAhead now x.due then y :: placeEntry now x ys else x :: y :: ys

/-- The schedule holds an entry of a key. -/
def State.hasEntry (s : State) (k : KeyId) : Bool := s.seq.schedule.any (fun x => x.key == k)

/-- The state of a key while it moves in a transition's direction (R48). -/
def Transition.moving : Transition → KeyState
  | .close => .descending
  | .open_ => .ascending

/-- The transition of the other direction. -/
def Transition.opposite : Transition → Transition
  | .close => .open_
  | .open_ => .close

/-- Place one transition of an event, or apply it at once; the Bool tells whether the event has
collapsed so far (R65, R66). -/
def placeOne (k : KeyId) (kind : Transition) (travel : Nat) (p : State × Bool) (c : ContactId) :
    State × Bool :=
  let s := p.1
  let point := (wordAt s.tab.contactProfile (profileIndex (keyManual k) c)).toNat
  let offset := transitionOffset kind travel point
  if offset = 0 then (s.applyTransition k c kind, p.2)
  else if s.seq.schedule.length < scheduleCapacity then
    let x : ScheduleEntry := ⟨s.seq.tickCount + wordOf offset, k, c, kind⟩
    (s.setSeq { s.seq with schedule := placeEntry s.seq.tickCount x s.seq.schedule }, p.2)
  else (s.applyTransition k c kind, true)

/-- The next transition of an event, unless a RELEASE that an earlier one brought about has taken the key
out of its movement: the release then removes what the event has still to do, as it removes what the event
has placed (R55, R56; assumption log 14). -/
def placeTransition (k : KeyId) (kind : Transition) (travel : Nat) (p : State × Bool) (c : ContactId) :
    State × Bool :=
  if p.1.keyState k = kind.moving then placeOne k kind travel p c else p

/-- A collapsing event counts one in Collapses and raises SCHEDULE_FULL once (R66). -/
def State.collapse (s : State) : State :=
  (s.count (fun c => { c with collapses := c.collapses + 1 })).raiseEvent .scheduleFull

/-- An event's transitions are placed, contact by contact (R65, R66). The spec does not say when within the
event a collapse is counted and raised: the model does it after the event's last transition and before the
key arrives (assumption log 37). -/
def State.placeTransitions (k : KeyId) (kind : Transition) (cs : List ContactId) (s : State) : State :=
  let r := cs.foldl (placeTransition k kind (s.key.records[k]).travel.toNat) (s, false)
  if r.2 then r.1.collapse else r.1

/-- The pending entries of a key that make one kind of transition leave the schedule (R64). -/
def State.removePending (k : KeyId) (kind : Transition) (s : State) : State :=
  s.setSeq { s.seq with schedule := s.seq.schedule.filter (fun x => !(x.key == k && x.kind == kind)) }

/-! ### Key events -/

/-- The key's contacts that are open, or closed, in contact order (R50, R51). -/
def State.contactsThat (s : State) (k : KeyId) (closed : Bool) : List ContactId :=
  (contactsOf k).filter (fun c => (s.contact k c != .opened) == closed)

/-- An UPPER key that is UP while every UPPER key is UP gives manual fully up (R51, R53, R58). -/
def State.afterUp (k : KeyId) (s : State) : State :=
  if keyManual k = .upper ∧ s.keyState k = .up ∧ s.manualUp .upper then s.manualFullyUp else s

/-- A moving key without a pending entry arrives: DESCENDING becomes DOWN and ASCENDING becomes UP, at the
end of its key event or after its last pending entry has been applied (R50, R51, R53). A key that a RELEASE
has brought UP meanwhile stays UP (R55; assumption log 14). -/
def State.settleKey (k : KeyId) (s : State) : State :=
  if s.hasEntry k then s
  else
    match s.keyState k with
    | .descending => s.setKeyState k .down
    | .ascending => (s.setKeyState k .up).afterUp k
    | _ => s

/-- A key event sets the key moving: the pending entries of the other direction leave, the record takes the
travel, the contacts that need it get their transitions, and the key arrives or stays on its way (R50,
R51). The record shows the direction of the movement while its transitions are made, where R50 sets the key
state after the closures: so a RELEASE within the first closures of an UPPER key-down finds a key that is not
UP and signals manual fully up (R55; the model's choice, assumption log 14). -/
def State.move (kind : Transition) (k : KeyId) (travel : BitVec 6) (s : State) : State :=
  let s := s.removePending k kind.opposite
  let s := s.setKeyRecord k { s.key.records[k] with state := kind.moving, travel := travel }
  (s.placeTransitions k kind (s.contactsThat k (kind == .open_))).settleKey k

/-- A key-down sets an UP or ASCENDING key moving down (R50). -/
def State.moveDown (k : KeyId) (travel : BitVec 6) (s : State) : State := s.move .close k travel

/-- A key-up sets a DOWN or DESCENDING key moving up (R51). -/
def State.moveUp (k : KeyId) (travel : BitVec 6) (s : State) : State := s.move .open_ k travel

/-- A stray event (R47). -/
def State.strayEvent (s : State) : State :=
  let s := s.count (fun c => { c with strayKeys := c.strayKeys + 1 })
  if s.cnt.strayKeys = 0 then s.raiseEvent .strayOverflow else s

/-- A refused event word (R44, R49). -/
def State.refuseKey (s : State) : State :=
  s.count (fun c => { c with refusedKeys := c.refusedKeys + 1 })

/-- A repeat (R52). -/
def State.repeatKey (s : State) : State :=
  s.count (fun c => { c with repeatKeys := c.repeatKeys + 1 })

/-- A key-down on a mapped key (R49). -/
def State.keyDownOn (k : KeyId) (travel : BitVec 6) (s : State) : State :=
  if s.key.hold then s.refuseKey
  else
    match s.keyState k with
    | .descending => s.repeatKey
    | .down => s.repeatKey
    | .ascending => s.moveDown k travel
    | .up =>
      if s.manualUp (keyManual k) then (s.phraseStart (keyManual k)).moveDown k travel
      else s.moveDown k travel

/-- A key-up on a mapped key (R51). -/
def State.keyUpOn (k : KeyId) (travel : BitVec 6) (s : State) : State :=
  match s.keyState k with
  | .up => s.repeatKey
  | .ascending => s.repeatKey
  | _ => s.moveUp k travel

/-- The key that the Key Map gives for a source and a raw key (R44, R45). -/
def State.mappedKey (s : State) (source : BitVec 2) (raw : BitVec 7) : Option KeyId :=
  keyOfWord (wordAt s.tab.keyMap (source.toNat * 128 + raw.toNat))

/-- One event word of a KEY frame (R44). -/
def State.keyEvent (source : BitVec 2) (raw : BitVec 7) (down : Bool) (travel : BitVec 6) (s : State) :
    State :=
  if s.req.opState = .playing then
    match s.mappedKey source raw with
    | none => s.strayEvent
    | some k => if down then s.keyDownOn k travel else s.keyUpOn k travel
  else s.refuseKey

/-- One event word of a KEY frame, from its word (R22). -/
def State.keyWord (s : State) (w : Word) : State :=
  s.keyEvent (w.extractLsb' 14 2) (w.extractLsb' 7 7) (w.getLsbD 6) (w.extractLsb' 0 6)

/-! ### Expiry -/

/-- The head of the Contact Schedule, if it is due, is removed and applied (R53, R67). -/
def State.applyHead (s : State) : State :=
  match s.seq.schedule with
  | [] => s
  | x :: rest =>
    if x.due = s.seq.tickCount then
      ((s.setSeq { s.seq with schedule := rest }).applyTransition x.key x.contact x.kind).settleKey x.key
    else s

/-- Every entry due at this tick is applied; `fuel` bounds the entries there can be (R67). -/
def State.applyDue : Nat → State → State
  | 0, s => s
  | fuel + 1, s =>
    match s.seq.schedule with
    | [] => s
    | x :: _ => if x.due = s.seq.tickCount then State.applyDue fuel s.applyHead else s

/-- The oldest click pulse leaves if its sixteenth tick has ended (R89). -/
def State.expireClick (s : State) : State :=
  match s.bus.clicks with
  | [] => s
  | p :: rest =>
    if 16 ≤ (s.seq.tickCount - p.start).toNat then s.setBus { s.bus with clicks := rest } else s

end Sys2Proof.Machine
end

