-- ==== Sys2Proof/Machine/Controls.lean ====
section
/-!
DEFINITION. Control moves: the check of each and the block it goes to (07_registration.md 7.1).
-/

namespace Sys2Proof.Machine

/-- A selector value (R151). -/
def selectorOf (value : Nat) : Selector :=
  match value with
  | 1 => .slow
  | 2 => .fast
  | _ => .stop

/-- A control move that passes the check goes to its owner (R118). -/
def State.controlAccepted (id value : Nat) (s : State) : State :=
  if id < 48 then
    match manualOfCode (id / 16) with
    | some m => s.moveDrawbar m (Fin.ofNat 9 (id % 16)) value
    | none => s
  else
    match id with
    | 48 => s.setReg { s.reg with expression := BitVec.ofNat 7 value }
    | 49 => s.setPrc (s.prc.moveEnable (value == 1) (s.manualUp .upper))
    | 50 => s.setPrc (s.prc.moveSwitch .level (value == 1))
    | 51 => s.setPrc (s.prc.moveSwitch .decay (value == 1))
    | 52 => s.setPrc (s.prc.moveSwitch .harmonic (value == 1))
    | 56 => s.setPrc (s.prc.moveScanner .mode value)
    | 57 => s.setPrc (s.prc.moveScanner .onUpper value)
    | 58 => s.setPrc (s.prc.moveScanner .onLower value)
    | 64 => s.moveSelector (selectorOf value)
    | 65 => s.moveBrake (value == 1)
    | 72 => s.release (manualsOfMask value)
    | _ => s

/-- One control move of a CONTROL frame (R118, R119). -/
def State.controlMove (id value : Nat) (s : State) : State :=
  if s.req.opState = .initializing then s
  else if controlOk id value then s.controlAccepted id value
  else s.count (fun c => { c with controlErrors := c.controlErrors + 1 })

/-- One control move, from its word (R22). -/
def State.controlWord (s : State) (w : Word) : State :=
  s.controlMove (bitsOf w 15 8) (bitsOf w 7 0)

end Sys2Proof.Machine
end

