-- ==== Sys2Proof/Machine/Audio.lean ====
section
/-!
DEFINITION. The sound of one tick from the wheel engines to the rotor signals
(05_the_bus_matrix.md 5.4 and 5.5, 06_wheel_engines.md 6.7, 07_registration.md 7.6,
08_percussion_and_scanner.md 8.4 and 8.5, 09_the_rotor_unit.md 9.7).
-/

namespace Sys2Proof.Machine

/-- A number over 256. -/
def over256 (n : Nat) : Sample := (n : Rat) / 256

/-- The sum of samples. -/
def mix (xs : List Sample) : Sample := xs.foldl (fun a x => a + x) 0

/-- A line takes a new sample of age 0 and the oldest leaves (R146, R161). -/
def pushSample (v : Vector Sample n) (x : Sample) : Vector Sample n :=
  tabulate n (fun i => match i with
    | 0 => x
    | j + 1 => (v[j]?).getD 0)

/-- The sample of an age. -/
def sampleAt (v : Vector Sample n) (age : Nat) : Sample := (v[age]?).getD 0

/-- The sample that lies d sixteenths of a sample back (R147, R163). -/
def delayedSample (v : Vector Sample n) (d : Nat) : Sample :=
  if d % 16 = 0 then sampleAt v (d / 16)
  else (1 - ((d % 16 : Nat) : Rat) / 16) * sampleAt v (d / 16)
    + ((d % 16 : Nat) : Rat) / 16 * sampleAt v (d / 16 + 1)

/-! ### Wheels (R87, R95, R108, R109) -/

/-- The wheel time (R95). -/
def State.wheelTime (s : State) : Nat := s.eng.wrap.toNat * 65536 + s.seq.tickCount.toNat

/-- The phase of a wheel at this tick (R95). -/
def State.wheelPhase (s : State) (w : Wheel) : BitVec 24 :=
  BitVec.ofNat 24 (s.wheelTime * (s.tab.wheelPitch[w]).toNat)

/-- The shape of a wheel (R87). -/
def State.wheelShape (s : State) (w : Wheel) : Fin 16 :=
  Fin.ofNat 16 (bitsOf s.tab.wheelVoicing[w] 11 8)

/-- The waveform of a wheel at this tick: that of its shape in force, at its phase (R87, R95, R108). -/
def State.wheelWaveform (s : State) (w : Wheel) : Sample :=
  Config.wheelVoices.waveform (s.wheelShape w) (s.wheelPhase w)

/-- The level of a wheel over 256 (R87). -/
def State.wheelLevel (s : State) (w : Wheel) : Sample := over256 (bitsOf s.tab.wheelVoicing[w] 7 0)

/-- What the engines have made at a tick so far: their records, the wheel signals of ACTIVE engines,
and the sum that leaks. -/
structure Rendered where
  cache : EngineCache
  signals : Vector Sample 96
  leak : Sample

/-- One engine's part in the tick: an ACTIVE engine renders and is dirty from then on, an IDLE engine
gives its settling output until it has settled, and any other gives nothing (R106, R108, R109). -/
def State.renderEngine (s : State) (a : Rendered) (e : EngineId) : Rendered :=
  let r := a.cache.engines[e]
  match r.state, r.wheel with
  | .active, some w =>
    let out := Config.pickup w r.tone (s.wheelWaveform w)
    { cache := a.cache.setEngine e { r with tone := out.1, dirty := true }
      signals := a.signals.set w out.2
      leak := a.leak + out.2 * s.wheelLevel w }
  | .idle, some w =>
    if r.settle = 256 then a
    else
      let out := Config.undrivenPickup.step w r.tone (s.wheelWaveform w)
      { a with
        cache := a.cache.setEngine e { r with tone := out.1 }
        leak := a.leak + out.2 * s.wheelLevel w }
  | _, _ => a

/-- All engines render (R108). -/
def State.renderEngines (s : State) : Rendered :=
  (List.finRange 64).foldl s.renderEngine ⟨s.eng, Vector.replicate 96 0, 0⟩

/-- The leakage bed (R109). -/
def State.leakageBed (s : State) (leak : Sample) : Sample :=
  scaled leak ((s.playSetting 3 : Rat) / 1024)

/-! ### Busses, clicks and manual sums (R84, R85, R89, R121, R131) -/

/-- The Bus Load Curve gain for a count, over 256 (R84). -/
def State.loadGain (s : State) (count : Nat) : Sample :=
  over256 (wordAt s.tab.busLoadCurve (min count 16 - 1)).toNat

/-- A bus signal (R85). -/
def State.busSignal (s : State) (signals : Vector Sample 96) (row : BusRow) : Sample :=
  let counts := s.bus.counts[row]
  mix (((List.finRange 96).filter (fun w => counts[w] != 0)).map
    (fun w => scaled signals[w] (s.loadGain counts[w] * s.wheelLevel w)))

/-- The Drawbar Law gain of a level, over 256 (R121). -/
def State.drawbarGain (s : State) (level : Nat) : Sample := over256 (wordAt s.tab.drawbarLaw level).toNat

/-- B9 of UPPER is borrowed (R144). -/
def State.borrow (s : State) : Bool := s.prc.enable && s.playSetting 12 == 1

/-- The gain on the UPPER drawbar mix (R145). -/
def State.compensation (s : State) : Sample :=
  if s.prc.enable && !s.prc.soft then over256 (s.playSetting 6) else 1

/-- The busses that a manual's drawbar mix takes (R121, R144). -/
def State.mixedBusses (s : State) (m : Manual) : List (Fin 9) :=
  if m = .upper ∧ s.borrow then [0, 1, 2, 3, 4, 5, 6, 7] else [0, 1, 2, 3, 4, 5, 6, 7, 8]

/-- The drawbar mix of a manual, after borrow and compensation (R121, R131, R144, R145). -/
def State.drawbarMix (s : State) (signals : Vector Sample 96) (m : Manual) : Sample :=
  let sum := mix ((s.mixedBusses m).map
    (fun n => scaled (s.busSignal signals (busRow m n)) (s.drawbarGain ((s.reg.manualBars m)[n]).level)))
  if m = .upper then scaled sum s.compensation else sum

/-- The click shape by age (R89). -/
def clickShape : List Int := [64, 192, 256, 224, 160, 96, 48, 16, -16, -48, -64, -48, -32, -16, -8, 0]

/-- The click level of a manual (R90). -/
def State.clickLevel (s : State) : Manual → Nat
  | .upper => s.playSetting 0
  | .lower => s.playSetting 1
  | .pedal => s.playSetting 2

/-- What a click pulse adds at this tick (R89). -/
def State.clickValue (s : State) (p : ClickPulse) : Sample :=
  let shape := clickShape.getD (s.seq.tickCount - p.start).toNat 0
  ((if p.positive then shape else -shape : Int) : Rat) / 256 * (Config.manualFullScale / 16)
    * ((s.clickLevel p.manual : Rat) / 15)

/-- The click sum of a manual (R89). -/
def State.clickSum (s : State) (m : Manual) : Sample :=
  mix ((s.bus.clicks.filter (fun p => p.manual == m)).map s.clickValue)

/-- A manual's sum before the scanner (R131). -/
def State.unscannedSum (s : State) (signals : Vector Sample 96) (m : Manual) : Sample :=
  s.drawbarMix signals m + s.clickSum m

/-! ### The scanner (R146, R147) -/

/-- The sweep of a phase, in units of 1/32,768 (R147). -/
def sweep (phase : Word) : Nat := if phase.toNat ≤ 32768 then phase.toNat else 65536 - phase.toNat

/-- The delay in sixteenths of a sample, for the mode in force (R147). -/
def State.scannerDelay (s : State) : Nat :=
  match s.prc.inForce.mode.val with
  | 1 | 4 => s.playSetting 8 * sweep s.prc.phase / 32768
  | 2 | 5 => s.playSetting 9 * sweep s.prc.phase / 32768
  | 3 | 6 => s.playSetting 10 * sweep s.prc.phase / 32768
  | _ => 0

/-- The scanned output of a line whose newest sample is the manual's sum (R147). -/
def State.scanned (s : State) (line : Vector Sample 64) (on : Bool) : Sample :=
  let sum := sampleAt line 0
  if !on then sum
  else
    match s.prc.inForce.mode.val with
    | 0 => sum
    | 1 | 2 | 3 => delayedSample line s.scannerDelay
    | _ => sum / 2 + delayedSample line s.scannerDelay / 2

/-- The scanner increment, 0 until the end of INITIALIZING (R146, R149). -/
def State.scannerIncrement (s : State) : Word :=
  if s.req.opState = .initializing then 0 else s.tab.playSettings[7]

/-! ### The dry signal (R130, R132, R143) -/

/-- The percussion signal (R143). -/
def State.percussionSignal (s : State) (signals : Vector Sample 96) : Sample :=
  let g := s.prc.gain s.halvingPeriod
  if g = 0 then 0 else scaled (s.busSignal signals percussionRow) ((g : Rat) / 4095)

/-- The expression gain (R130). -/
def State.expressionGain (s : State) : Sample :=
  over256 (wordAt s.tab.expressionCurve s.reg.expression.toNat).toNat

/-! ### The rotor audio path (R160 to R164) -/

/-- The rotor input (R160). -/
def State.rotorInput (s : State) (dry : Sample) : Sample :=
  if s.rotorSetting 15 = 1 then dry + scaled s.out.cascadeIn (over256 (s.rotorSetting 14)) else dry

/-- The crossover at one tick: its new memory and the drum band (R161; assumption log 9). -/
def crossover (c : CrossoverState) (x : Sample) : CrossoverState × Sample :=
  Config.crossoverFilter.biquad.run c x

/-- The facing of an angle: its cosine as a fraction of a full turn (R162; assumption log 10). -/
def facing (angle : Word) : Sample := turnCosine (BitVec.ofNat 24 (angle.toNat * 256))

/-- The two microphones of a rotor (R162). -/
inductive Mic
  | left | right
  deriving DecidableEq, Repr

/-- The angle of a microphone (R162). -/
def micAngle (mic : Mic) (angle : Word) : Word :=
  match mic with
  | .left => angle - 16384
  | .right => angle + 16384

/-- The facing of the horn at a microphone (R162). -/
def State.hornFacing (s : State) (mic : Mic) : Sample :=
  facing (s.rot.horn.position - micAngle mic s.tab.rotorSettings[9])

/-- The facing of the drum at a microphone (R162). -/
def State.drumFacing (s : State) (mic : Mic) : Sample :=
  facing (s.rot.drum.position - micAngle mic s.tab.rotorSettings[10])

/-- The amplitude gain at a facing (R162). -/
def State.amplitudeGain (s : State) (c : Sample) : Sample :=
  1 - over256 (s.rotorSetting 13) * ((1 - c) / 2)

/-- The Doppler delay of the horn at a microphone, in sixteenths of a sample (R163). -/
def State.dopplerDelay (s : State) (mic : Mic) : Nat :=
  ((s.rotorSetting 12 : Rat) * (1 - s.hornFacing mic)).floor.toNat

/-- The horn pickup at a microphone (R163). -/
def State.hornPickup (s : State) (line : Vector Sample 33) (mic : Mic) : Sample :=
  scaled (delayedSample line (s.dopplerDelay mic)) (s.amplitudeGain (s.hornFacing mic))

/-- The drum pickup at a microphone (R163). -/
def State.drumPickup (s : State) (band : Sample) (mic : Mic) : Sample :=
  scaled band (s.amplitudeGain (s.drumFacing mic))

/-- ROTOR LEFT or ROTOR RIGHT (R164). -/
def State.rotorSignal (s : State) (line : Vector Sample 33) (band : Sample) (mic : Mic) : Sample :=
  scaled (s.hornPickup line mic) (over256 (s.rotorSetting 11))
    + scaled (s.drumPickup band mic) (over256 (256 - s.rotorSetting 11))

/-! ### All of it -/

/-- The signals of a tick that the outputs may take (R131, R132, R164). -/
structure Signals where
  upper : Sample
  lower : Sample
  pedal : Sample
  dry : Sample
  hornLine : Vector Sample 33
  drumBand : Sample

/-- Form the signals of a tick: the engines, the scanner lines and phase, the crossover and the horn
line take their step (R108, R131, R132, R146, R161). -/
def State.formAudio (s : State) : State × Signals :=
  let r := s.renderEngines
  let upperLine := pushSample s.prc.upperLine (s.unscannedSum r.signals .upper)
  let lowerLine := pushSample s.prc.lowerLine (s.unscannedSum r.signals .lower)
  let upper := s.scanned upperLine s.prc.inForce.onUpper
  let lower := s.scanned lowerLine s.prc.inForce.onLower
  let pedal := s.unscannedSum r.signals .pedal
  let organ := upper + lower + pedal + s.percussionSignal r.signals
  let dry := scaled organ s.expressionGain + s.leakageBed r.leak
  let input := s.rotorInput dry
  let x := crossover s.rot.crossover input
  let hornLine := pushSample s.rot.hornLine (input - x.2)
  (((s.setEng r.cache).setPrc { s.prc with
      upperLine := upperLine, lowerLine := lowerLine, phase := s.prc.phase + s.scannerIncrement }).setRot
      { s.rot with crossover := x.1, hornLine := hornLine },
    ⟨upper, lower, pedal, dry, hornLine, x.2⟩)

/-- The source sample of an output (R169). -/
def State.sourceSample (s : State) (a : Signals) (source : Nat) : Sample :=
  match source with
  | 1 => s.rotorSignal a.hornLine a.drumBand .left
  | 2 => s.rotorSignal a.hornLine a.drumBand .right
  | 3 => s.rotorSignal a.hornLine a.drumBand .left / 2 + s.rotorSignal a.hornLine a.drumBand .right / 2
  | 4 => a.dry
  | 5 => a.upper
  | 6 => a.lower
  | 7 => a.pedal
  | _ => 0

end Sys2Proof.Machine
end

