-- ==== Sys2Proof/Machine/Outputs.lean ====
section
/-!
DEFINITION. Cascade In, the fade, the limiters and the output stage's step
(10_audio_ports_and_output_limiting.md 10.2 to 10.6).
-/

namespace Sys2Proof.Machine

/-! ### Cascade In (R168) -/

/-- A bad cascade sample (R168). -/
def OutputUnit.badCascade (o : OutputUnit) : OutputUnit :=
  { o with cascadeValid := false, cascadeRun := 0, cascadeIn := 0, cascadeJudged := true }

/-- A good cascade sample (R168). -/
def OutputUnit.goodCascade (o : OutputUnit) (x : Sample) : OutputUnit :=
  if o.cascadeValid then { o with cascadeIn := x, cascadeJudged := true }
  else
    { o with
      cascadeRun := min 16 (o.cascadeRun + 1)
      cascadeValid := decide (16 ≤ o.cascadeRun + 1)
      cascadeIn := 0
      cascadeJudged := true }

/-- What arrives on Cascade In; a second arrival in one tick is more than one frame (R168; assumption
log 21). -/
def OutputUnit.cascade (o : OutputUnit) (f : CascadeFrame) : OutputUnit :=
  match f with
  | .good x => if o.cascadeJudged then o.badCascade else o.goodCascade x
  | _ => o.badCascade

/-! ### Settings of an output (R23, R169, R172) -/

/-- An Output Settings entry of an output; before the end of INITIALIZING every output is taken as
source OFF with mode OFF (R178). -/
def State.outputWord (s : State) (o : OutputId) (part : Nat) : Word :=
  if s.req.opState = .initializing then 0 else wordAt s.tab.outputSettings (3 * o.val + part)

/-- The source code of an output. -/
def State.outputSource (s : State) (o : OutputId) : Nat := bitsOf (s.outputWord o 0) 2 0

/-- The level of an output. -/
def State.outputLevel (s : State) (o : OutputId) : Nat := bitsOf (s.outputWord o 0) 15 8

/-- The threshold of an output, in units of full scale. -/
def State.outputThreshold (s : State) (o : OutputId) : Sample := over256 (bitsOf (s.outputWord o 1) 7 0)

/-- The deglitch of an output in ticks. -/
def State.outputDeglitch (s : State) (o : OutputId) : Nat := 2 ^ bitsOf (s.outputWord o 1) 9 8

/-- The limit gain of an output, over 256. -/
def State.limitGain (s : State) (o : OutputId) : Sample := over256 (bitsOf (s.outputWord o 2) 15 8)

/-- N of an output. -/
def State.limitN (s : State) (o : OutputId) : Nat := bitsOf (s.outputWord o 2) 7 4

/-- The scope of an output is ALL. -/
def State.scopeAll (s : State) (o : OutputId) : Bool := (s.outputWord o 2).getLsbD 3

/-- The limiter mode of an output. -/
def State.limitMode (s : State) (o : OutputId) : LimitMode := limitModeOfWord (s.outputWord o 2)

/-! ### The fade and the pre-limit samples (R169, R171) -/

/-- The fade position after a tick's step (R171). -/
def fadeStep (mute : Bool) (position : Nat) : Nat :=
  if mute then position - 1 else min 64 (position + 1)

/-- The pre-limit sample of an output (R169). -/
def State.prelimit (s : State) (a : Signals) (o : OutputId) : Sample :=
  if s.outputSource o = 0 ∨ s.outputLevel o = 0 ∨ s.out.fade = 0 then 0
  else s.sourceSample a (s.outputSource o) * over256 (s.outputLevel o) * ((s.out.fade : Rat) / 64)

/-! ### The limiters (R173, R174, R175) -/

/-- The magnitude of a sample exceeds a threshold (R172). -/
def exceeds (x threshold : Sample) : Bool := decide (threshold < (if x < 0 then -x else x))

/-- An episode at a tick after its start; none when it ends (R174). -/
def Episode.step (e : Episode) (boundary exceeding : Bool) : Option Episode :=
  match e.mode with
  | .nextPeriod =>
    let mark := e.extend || exceeding
    if boundary then (if mark then some { e with extend := false } else none)
    else some { e with extend := mark }
  | .below => if exceeding then some e else none
  | .afterN =>
    if boundary then (if e.remaining ≤ 1 then none else some { e with remaining := e.remaining - 1 })
    else some e
  | .report => if boundary then none else some e
  | .off => none

/-- A limiter judges a pre-limit sample; the Bool tells whether an episode starts (R173, R174). R173 gives
the boundaries remaining in AFTER_N only: in the other modes, which do not count them, they are 0 (the model's
choice, assumption log 41). -/
def Limiter.step (l : Limiter) (mode : LimitMode) (deglitch n : Nat) (boundary exceeding : Bool) :
    Limiter × Bool :=
  match l.episode with
  | some e => ({ l with run := 0, episode := e.step boundary exceeding }, false)
  | none =>
    if mode = .off ∨ exceeding = false then ({ l with run := 0 }, false)
    else if deglitch ≤ l.run + 1 then
      ({ run := 0, episode := some ⟨mode, if mode = .afterN then n + 1 else 0, false⟩, flag := true },
        true)
    else ({ l with run := l.run + 1 }, false)

/-- Replace one limiter record. -/
def State.setLimiter (s : State) (o : OutputId) (l : Limiter) : State :=
  s.setOut { s.out with limiters := s.out.limiters.set o l }

/-- One output's limiter takes its step for a pre-limit sample; a start counts and raises OUTPUT_LIMIT,
as one change of the notice state (R173, R174, R177, R189; assumption log 13). -/
def State.stepLimiter (x : Sample) (s : State) (o : OutputId) : State :=
  let r := (s.out.limiters[o]).step (s.limitMode o) (s.outputDeglitch o) (s.limitN o) s.atBoundary
    (exceeds x (s.outputThreshold o))
  if r.2 then
    s.asEvent (fun s => (((s.setLimiter o r.1).count
      (fun c => { c with limitEpisodes := c.limitEpisodes.set o (c.limitEpisodes[o] + 1) })).occur
        .outputLimit).refresh)
  else s.setLimiter o r.1

/-- The episode of output p acts on output o (R175). -/
def State.actsOn (s : State) (p o : OutputId) : Bool :=
  match (s.out.limiters[p]).episode with
  | some e =>
    (match e.mode with
     | .nextPeriod | .below | .afterN => true
     | _ => false) && (p == o || s.scopeAll p)
  | none => false

/-- The limit scale of an output (R175). -/
def State.limitScale (s : State) (o : OutputId) : Sample :=
  ((allOutputs.filter (fun p => s.actsOn p o)).map s.limitGain).foldl (fun a g => min a g) 1

/-- A sample beyond full scale is sent as full scale of its sign (R169). -/
def clip (x : Sample) : Sample := max (-1) (min 1 x)

/-! ### The output stage's step (R171, R172) -/

/-- The fade step of a tick (R171). -/
def State.stepFade (s : State) : State :=
  s.setOut { s.out with fade := fadeStep s.out.muteBefore s.out.fade, stepTaken := true }

/-- The pre-limit samples of the four outputs (R169). -/
def State.prelimits (s : State) (a : Signals) : Vector Sample 4 :=
  tabulate 4 (fun o => s.prelimit a (Fin.ofNat 4 o))

/-- Every output's limiter takes its step (R172), one after another from O1 to O4: two starts in one step are
two events in that order (the model's choice, assumption log 39). -/
def State.stepLimiters (pre : Vector Sample 4) (s : State) : State :=
  allOutputs.foldl (fun s o => s.stepLimiter pre[o] o) s

/-- The limit scale in force at this tick: 1 for every output in the tick of a soft reset that came before
the step, whatever episode starts in it (R175, R178; assumption log 38). -/
def State.scaleInForce (s : State) (o : OutputId) : Sample := if s.out.unlimited then 1 else s.limitScale o

/-- The port samples of the four outputs (R169, R175, R178). -/
def State.portSamples (s : State) (pre : Vector Sample 4) : Vector Sample 4 :=
  tabulate 4 (fun o => clip (scaled pre[Fin.ofNat 4 o] (s.scaleInForce (Fin.ofNat 4 o))))

/-- The port samples are sent (R169). -/
def State.sendPorts (pre : Vector Sample 4) (s : State) : State :=
  s.setOut { s.out with ports := s.portSamples pre }

/-- The output stage's step of a tick, once per tick: the signals, the fade step, the limiters of the
four outputs, then the port samples (R171, R172). -/
def State.outputStage (s : State) : State :=
  if s.out.stepTaken then s
  else
    let r := s.formAudio
    let s := r.1.stepFade
    let pre := s.prelimits r.2
    (s.stepLimiters pre).sendPorts pre

end Sys2Proof.Machine
end

