-- ==== Sys2Proof/Machine/Tables.lean ====
section
/-!
DEFINITION. Reading and writing the tables of the directory, entry by entry, with the effect that the
owning block gives a written or restored entry (01_the_console_link.md R21 to R24,
02_requests_tables_and_commands.md R32, R37, R40, R43).
-/

namespace Sys2Proof.Machine

/-! ### Reading an entry -/

/-- The code of a reset cause (R24). -/
def resetCauseCode : ResetCause → Nat
  | .powerOn => 0
  | .resetPin => 1
  | .soft => 2

/-- The command code of the long command in flight, 0 for none (R22, R24). -/
def inFlightCode : Option LongCommand → Nat
  | none => 0
  | some .flushEngines => 6
  | some .restoreFactory => 7

/-- The code of a last result (R24). -/
def lastResultCode : LastResult → Nat
  | .none => 0
  | .done => 1
  | .abandoned => 2

/-- A Status entry (R24, R43). -/
def State.statusEntry (s : State) (i : Nat) : Nat :=
  match i with
  | 0 => opStateCode s.req.opState
  | 1 => resetCauseCode s.req.resetCause
  | 2 => lastResultCode s.req.lastResult * 256 + inFlightCode s.req.inFlight
  | 3 => flagAt s.lnk.linked 15 + s.lnk.rate.val * 4096 + s.station
  | 4 => s.eng.starved.length
  | 5 => s.seq.schedule.length
  | 6 => flagAt s.flt.fault 1 + flagAt s.flt.warn 0
  | _ => s.eng.lru.length * 256 + s.eng.free.length

/-- The code of a key state (R24). -/
def keyStateCode : KeyState → Nat
  | .up => 0
  | .descending => 1
  | .down => 2
  | .ascending => 3

/-- A Key State entry (R24, R59). -/
def keyStateEntry (k : KeyRecord) : Nat :=
  keyStateCode k.state * 16384
    + ((List.finRange 10).map (fun c => flagAt (k.contacts[c] != .opened) c.val)).sum

/-- The code of an engine state (R24). -/
def engineStateCode : EngineState → Nat
  | .free => 0
  | .loading => 1
  | .active => 2
  | .idle => 3
  | .writingBack => 4

/-- The two words of an Engine State entry (R24, R113). -/
def engineEntry (e : Engine) : List Word :=
  [wordOf (wheelNumber e.wheel * 256 + flagAt e.dirty 3 + engineStateCode e.state),
   wordOf (wheelNumber e.next * 512 + e.settle)]

/-- The two words of a Contact Schedule entry; all ones beyond the schedule (R21, R24, R72). -/
def scheduleEntryWords : Option ScheduleEntry → List Word
  | none => [0xFFFF, 0xFFFF]
  | some x =>
    [x.due,
     wordOf ((keyManual x.key).toFin.val * 16384 + keyIndex x.key * 256 + x.contact.val * 16
       + (if x.kind = .open_ then 1 else 0))]

/-- The counters in entry order (R37). -/
def Counters.toList (c : Counters) : List Word :=
  [c.goodFrames, c.checkDrops, c.shortFrames, c.strayWords, c.forwardDrops, c.replyDrops,
   c.unknownKinds, c.strayKeys.zeroExtend 16, c.repeatKeys, c.refusedKeys, c.collapses, c.hits,
   c.cleanMisses, c.dirtyMisses, c.shortages, c.controlErrors] ++ c.limitEpisodes.toList

/-- A Drawbar State entry (R24, R133). -/
def drawbarEntry (b : Drawbar) : Nat := b.target.getD 0 * 256 + flagAt b.target.isSome 7 + b.level

/-- The words of one entry of a table, as they stand (R21, R23, R24). -/
def State.entryWords (s : State) (t : TableId) (i : Nat) : List Word :=
  match t with
  | .keyMap => [wordAt s.tab.keyMap i]
  | .contactProfile => [wordAt s.tab.contactProfile i]
  | .wheelAssignment => [wordAt s.tab.wheelAssignment i]
  | .wheelPitch => pitchWords ((s.tab.wheelPitch[i]?).getD 0).toNat
  | .wheelVoicing => [wordAt s.tab.wheelVoicing i]
  | .busLoadCurve => [wordAt s.tab.busLoadCurve i]
  | .drawbarLaw => [wordAt s.tab.drawbarLaw i]
  | .presets => [wordAt s.tab.presets i]
  | .expressionCurve => [wordAt s.tab.expressionCurve i]
  | .faultConfiguration => [wordAt s.tab.faultConfiguration i]
  | .linkSettings => [wordAt s.tab.linkSettings i]
  | .playSettings => [wordAt s.tab.playSettings i]
  | .rotorSettings => [wordAt s.tab.rotorSettings i]
  | .outputSettings => [wordAt s.tab.outputSettings i]
  | .status => [wordOf (s.statusEntry i)]
  | .keyState => [wordOf ((s.key.records[i]?).map keyStateEntry |>.getD 0)]
  | .engineState => (s.eng.engines[i]?).map engineEntry |>.getD [0, 0]
  | .starvedWheels => [wordOf (wheelNumber s.eng.starved[i]?)]
  | .contactSchedule => scheduleEntryWords s.seq.schedule[i]?
  | .counters => [s.cnt.toList.getD i 0]
  | .drawbarState =>
    [wordOf (drawbarEntry (((s.reg.drawbars[i / 9]?).bind (fun v => v[i % 9]?)).getD ⟨0, none⟩))]

/-! ### Writing an entry -/

/-- One entry of a writable table takes its words, and nothing else happens. -/
def Tables.setEntry (tab : Tables) (t : TableId) (i : Nat) (ws : List Word) : Tables :=
  let w := ws.headD 0
  match t with
  | .keyMap => { tab with keyMap := tab.keyMap.setIfInBounds i w }
  | .contactProfile => { tab with contactProfile := tab.contactProfile.setIfInBounds i w }
  | .wheelAssignment => { tab with wheelAssignment := tab.wheelAssignment.setIfInBounds i w }
  | .wheelPitch =>
    let inc := BitVec.ofNat 24 (w.toNat * 65536 + (ws.getD 1 0).toNat)
    { tab with wheelPitch := tab.wheelPitch.setIfInBounds i inc }
  | .wheelVoicing => { tab with wheelVoicing := tab.wheelVoicing.setIfInBounds i w }
  | .busLoadCurve => { tab with busLoadCurve := tab.busLoadCurve.setIfInBounds i w }
  | .drawbarLaw => { tab with drawbarLaw := tab.drawbarLaw.setIfInBounds i w }
  | .presets => { tab with presets := tab.presets.setIfInBounds i w }
  | .expressionCurve => { tab with expressionCurve := tab.expressionCurve.setIfInBounds i w }
  | .faultConfiguration => { tab with faultConfiguration := tab.faultConfiguration.setIfInBounds i w }
  | .linkSettings => { tab with linkSettings := tab.linkSettings.setIfInBounds i w }
  | .playSettings => { tab with playSettings := tab.playSettings.setIfInBounds i w }
  | .rotorSettings => { tab with rotorSettings := tab.rotorSettings.setIfInBounds i w }
  | .outputSettings => { tab with outputSettings := tab.outputSettings.setIfInBounds i w }
  | _ => tab

/-- An entry of a table is stored, and nothing else happens. -/
def State.storeEntry (s : State) (t : TableId) (i : Nat) (ws : List Word) : State :=
  s.setTab (s.tab.setEntry t i ws)

/-- The fault kind of a number (R179). -/
def faultKindOf (i : Nat) : FaultKind :=
  match i with
  | 0 => .linkLost
  | 1 => .consoleSilence
  | 2 => .engineShortage
  | 3 => .clockFallback
  | 4 => .scheduleFull
  | 5 => .outputLimit
  | 6 => .strayOverflow
  | _ => .linkErrors

/-- The silence window code has been written (R187). -/
def State.silenceWritten (s : State) : State :=
  match s.silenceWindow with
  | some _ => s.setFlt { s.flt with silence := Timer.start }
  | none => (s.setFlt { s.flt with silence := Timer.stopped }).conditionAbsent .consoleSilence

/-- The notice enable has been written over an old value (R189). -/
def State.enableWritten (old : Bool) (s : State) : State :=
  if s.noticeEnable then
    if old then s else s.setFlt { s.flt with noticeTimer := Timer.start }
  else s.setFlt { s.flt with pendingChanges := 0, waiting := false }

/-- The rotor whose slow speed, when SLOW is selected, or fast speed, when FAST is selected, an entry
of Rotor Settings holds (R155). -/
def rotorOfSpeed (sel : Selector) (i : Nat) : Option RotorId :=
  match sel, i with
  | .slow, 0 => some .horn
  | .fast, 1 => some .horn
  | .slow, 4 => some .drum
  | .fast, 5 => some .drum
  | _, _ => none

/-- An output's third Output Settings entry has been written over an old value: a changed mode ends its
episode and sets its run to 0 (R176). -/
def State.modeWritten (o : OutputId) (old : Word) (s : State) : State :=
  if limitModeOfWord old = limitModeOfWord (wordAt s.tab.outputSettings (3 * o.val + 2)) then s
  else s.setLimiter o { s.out.limiters[o] with run := 0, episode := none }

/-- One entry of a writable table is written or restored, with the effect its owner gives it (R32,
R40). A retry time counts from the next tick (R183; assumption log 20). -/
def State.writeEntry (t : TableId) (s : State) (i : Nat) (ws : List Word) : State :=
  match t with
  | .faultConfiguration => s.reconfigure (faultKindOf i) (ws.headD 0)
  | .linkSettings =>
    let s' := s.storeEntry t i ws
    if i = 1 then s'.silenceWritten
    else if i = 2 then s'.enableWritten s.noticeEnable
    else s'
  | .playSettings => if i = 13 then s.retryTicks.storeEntry t i ws else s.storeEntry t i ws
  | .rotorSettings =>
    let s' := s.storeEntry t i ws
    match rotorOfSpeed s.rot.selector i with
    | some r => s'.retarget r
    | none => s'
  | .outputSettings =>
    let s' := s.storeEntry t i ws
    if i % 3 = 2 then s'.modeWritten (Fin.ofNat 4 (i / 3)) (wordAt s.tab.outputSettings i) else s'
  | _ => s.storeEntry t i ws

/-- Several entries are written in index order (R32). -/
def State.writeList (t : TableId) (es : List (Nat × List Word)) (s : State) : State :=
  es.foldl (fun s e => s.writeEntry t e.1 e.2) s

/-- Entries of a table are written or restored as one event: Fault Configuration entries together make
at most one notice change, and notice settings may make a notice due (R185, R189; assumption
log 13). -/
def State.writeEntries (t : TableId) (es : List (Nat × List Word)) (s : State) : State :=
  match t with
  | .faultConfiguration => s.asEvent (State.writeList t es)
  | .linkSettings => (s.writeList t es).checkNotice
  | _ => s.writeList t es

/-- The entries of a WRITE's data, each with its index (R22). -/
def dataEntries (width start count : Nat) (ws : List Word) : List (Nat × List Word) :=
  (List.range count).map (fun j => (start + j, (ws.drop (j * width)).take width))

/-- The factory contents of some entries of a table, each with its index (R40). -/
def State.factoryEntries (s : State) (t : TableId) (start count : Nat) : List (Nat × List Word) :=
  (List.range (min count (tableEntries t - start))).map
    (fun j => (start + j, factoryEntry t s.lnk.strap (start + j)))

/-- The restore cursor takes its tick: eight more entries, and the command is DONE after the last
(R40). -/
def State.restoreTick (s : State) : State :=
  match s.req.cursor with
  | none => s
  | some c =>
    if c.ticked then s
    else
      let s := s.writeEntries c.table (s.factoryEntries c.table c.index 8)
      if tableEntries c.table ≤ c.index + 8 then
        s.setReq { s.req with cursor := none, inFlight := none, lastResult := .done }
      else s.setReq { s.req with cursor := some { c with index := c.index + 8, ticked := true } }

end Sys2Proof.Machine
end

