-- ==== Sys2Proof/Machine/Search.lean ====
section
/-!
DEFINITION. The link state: lock, loss, the quiet timer and the search window, and the transmitter's
arbiter (01_the_console_link.md 1.8, 1.9).
-/

namespace Sys2Proof.Machine

/-! ### Lock, loss and search (R13 to R16) -/

/-- The link becomes LINKED at the current rate (R14). The spec gives the window timer and the lock run no value
while LINKED: the model stops the timer at 0 and keeps the run at 8 (assumption log 25). -/
def State.lock (s : State) : State :=
  (s.setLnk { s.lnk with
    linked := true
    loss := 0
    quiet := Timer.start
    window := 0
    windowTimer := Timer.stopped
    assembly := none
    sinceLock := true
    lockRate := s.lnk.rate }).conditionAbsent .linkLost

/-- The frames of the Forward Queue that a loss leaves: the one whose sending has started (R16). -/
def LinkUnit.keptAtLoss (l : LinkUnit) : List ForwardFrame :=
  if l.transmit = .forwarding then l.forward.take 1 else []

/-- The link leaves LINKED for SEARCHING (R16). The spec gives the quiet timer no value while SEARCHING: the
model stops it, and the next lock starts it from 0 (R14; assumption log 25). -/
def State.lose (s : State) : State :=
  let kept := s.lnk.keptAtLoss
  let dropped := s.lnk.forward.length - kept.length
  (s.setLnk { s.lnk with
    linked := false
    rate := 0
    window := 0
    windowTimer := Timer.start
    lockRun := 0
    quiet := Timer.stopped
    assembly := none
    sinceLock := false
    forward := kept }).count
    (fun c => { c with forwardDrops := c.forwardDrops + wordOf dropped })

/-- The quiet timer takes its tick (R16). -/
def State.quietTick (s : State) : State :=
  if s.lnk.linked && s.lnk.quiet.due then
    let t := s.lnk.quiet.add
    if 512 ≤ t.count then s.lose else s.setLnk { s.lnk with quiet := t }
  else s

/-- The window timer takes its tick; at 2,048 the search moves on, or its cycle fails (R13, R15). -/
def State.windowTick (s : State) : State :=
  if !s.lnk.linked && s.lnk.windowTimer.due then
    let t := s.lnk.windowTimer.add
    if t.count < 2048 then s.setLnk { s.lnk with windowTimer := t }
    else if s.lnk.window < 3 then
      s.setLnk { s.lnk with
        rate := s.lnk.rate + 1, window := s.lnk.window + 1, windowTimer := Timer.start, lockRun := 0 }
    else
      (s.setLnk { s.lnk with
        rate := 0, window := 0, windowTimer := Timer.start, lockRun := 0 }).conditionPresent .linkLost
  else s

/-! ### Link Out (R9 to R12) -/

/-- One word of the frame being sent goes out, if another stands behind it; a forwarded frame gives up
one word of room (R9; assumption log 6). -/
def LinkUnit.sendWord (l : LinkUnit) : LinkUnit :=
  match l.toSend with
  | _ :: w :: rest =>
    { l with
      toSend := w :: rest
      forward := if l.transmit = .forwarding then
          l.forward.modifyHead (fun f => { f with room := f.room - 1 })
        else l.forward }
  | _ => l

/-- The frame being sent ends: it leaves its queue (R9, R10). -/
def LinkUnit.finishSending (l : LinkUnit) : LinkUnit :=
  match l.transmit with
  | .forwarding => { l with forward := l.forward.tail, transmit := .idle, toSend := [] }
  | .replying => { l with replies := l.replies.tail, transmit := .idle, toSend := [] }
  | _ => { l with transmit := .idle, toSend := [] }

/-- The words of an idle word: Kind 15 and every other field zero (R12). -/
def idleWords : List Word := [headerWord 0 15 0 0]

/-- An idle word starts (R11, R12). -/
def LinkUnit.startIdle (l : LinkUnit) : LinkUnit :=
  { l with transmit := .idle, toSend := frameOnLink idleWords }

/-- The head of the Forward Queue starts; the wait count goes up while the Reply Queue holds a frame
(R11). -/
def LinkUnit.startForward (l : LinkUnit) (ws : List Word) : LinkUnit :=
  { l with
    transmit := .forwarding
    toSend := frameOnLink ws
    waitCount := if l.replies.isEmpty then l.waitCount else l.waitCount + 1 }

/-- The head of the Reply Queue starts (R11). -/
def LinkUnit.startReply (l : LinkUnit) (ws : List Word) : LinkUnit :=
  { l with transmit := .replying, toSend := frameOnLink ws, waitCount := 0 }

/-- The frame at the head of the Forward Queue, if it is eligible (R9). -/
def LinkUnit.eligible (l : LinkUnit) : Option (List Word) :=
  match l.forward with
  | f :: _ => if f.complete then some f.words else none
  | [] => none

/-- The arbiter's decision; SEARCHING sends idle words only (R11, R12). -/
def LinkUnit.arbitrate (l : LinkUnit) : LinkUnit :=
  if l.linked = false then l.startIdle
  else
    match l.eligible, l.replies.head? with
    | none, none => l.startIdle
    | some f, none => l.startForward f
    | none, some r => l.startReply r
    | some f, some r => if l.waitCount = 4 then l.startReply r else l.startForward f

/-- The transmitter is free: what it sent ends, it moves to the rate of the most recent lock, and the
arbiter decides (R11, R12, R14). -/
def LinkUnit.transmitterFree (l : LinkUnit) : LinkUnit :=
  { l.finishSending with txRate := l.lockRate }.arbitrate

end Sys2Proof.Machine
end

