-- ==== Sys2Proof/Machine/Reset.lean ====
section
/-!
DEFINITION. The full reset, its release, the end of INITIALIZING and the soft reset, with each block's
part in them (02_requests_tables_and_commands.md 2.8 and the Resets section of each chapter).
-/

namespace Sys2Proof.Machine

/-! ### Full reset (R26, R42) -/

/-- A full reset begins or goes on: every block is held in its full-reset state (R42). -/
def State.fullReset (cause : ResetCause) (s : State) : State := (State.inReset cause).setPending s.pending

/-- The cause that an assertion of RESET records: a reset that began with power-on keeps its cause
(R42; assumption log 19). -/
def State.pinCause (s : State) : ResetCause := if s.req.held then s.req.resetCause else .resetPin

/-- Full reset is released: the strap pins are sampled, the part enters INITIALIZING, its window timer and
initialization timer start, and LINK_OUT starts an idle word (R12, R13, R17, R19, R26). -/
def State.releaseReset (strap : BitVec 5) (s : State) : State :=
  ((s.setLnk { s.lnk with strap := strap, windowTimer := Timer.start }.startIdle).setReq
    { s.req with held := false, initTimer := Timer.start }).storeEntry .linkSettings 0
      [wordOf strap.toNat]

/-- A condition that stands present at the end of INITIALIZING is raised as an occurrence (R191). -/
def State.raisePresent (k : FaultKind) (s : State) : State :=
  if (s.record k).present then s.asEvent (State.occur k) else s

/-- Every table takes its factory contents and the part enters STANDBY (R26). The initialization timer, which
R26 reads in INITIALIZING only, stops and goes back to 0 (the model's choice, assumption log 40). -/
def State.loadFactory (s : State) : State :=
  (s.setTab (Tables.factory s.lnk.strap)).setReq
    { s.req with opState := .standby, initTimer := Timer.stopped }

/-- Every manual takes its preset 0 (R134). -/
def State.firstPresets (s : State) : State := allManuals.foldl (fun s m => s.selectNow m 0) s

/-- The silence timer and the notice timer start at the end of INITIALIZING (R191). -/
def State.startFaultTimers (s : State) : State :=
  (s.setFlt { s.flt with silence := Timer.start, noticeTimer := Timer.start }).refresh

/-- Each condition that stands present is raised (R191). -/
def State.raiseAllPresent (s : State) : State := allKinds.foldl (fun s k => s.raisePresent k) s

/-- INITIALIZING ends: the tables hold their factory contents, each block starts from them, the present
conditions are raised and the change of state counts as one pending change (R26, R27, R134, R191;
assumption log 29). -/
def State.finishInitializing (s : State) : State :=
  s.loadFactory.firstPresets.startFaultTimers.raiseAllPresent.countChange

/-- The initialization timer takes its tick (R26). -/
def State.initTick (s : State) : State :=
  if s.req.opState = .initializing ∧ s.req.initTimer.due then
    let t := s.req.initTimer.add
    if 2048 ≤ t.count then s.finishInitializing else s.setReq { s.req with initTimer := t }
  else s

/-! ### Soft reset (R41) -/

/-- The table under RESTORE_FACTORY becomes factory in full (R41). The fault records and retry timers
are cleared by the same reset, so entries that only they heed are only stored. -/
def State.restoreAll (t : TableId) (s : State) : State :=
  let es := s.factoryEntries t 0 (tableEntries t)
  match t with
  | .faultConfiguration => es.foldl (fun s e => s.storeEntry t e.1 e.2) s
  | .playSettings => es.foldl (fun s e => s.storeEntry t e.1 e.2) s
  | _ => s.writeList t es

/-- A long command in flight is abandoned (R38, R41). -/
def State.abandon (s : State) : State :=
  let s := match s.req.cursor with
    | some c => s.restoreAll c.table
    | none => s
  match s.req.inFlight with
  | some _ => s.setReq { s.req with inFlight := none, lastResult := .abandoned, cursor := none }
  | none => s.setReq { s.req with cursor := none }

/-- The Engine Cache at a soft reset: its full-reset state but for the wrap count (R116). -/
def EngineCache.softReset (c : EngineCache) : EngineCache := { EngineCache.reset with wrap := c.wrap }

/-- Percussion at a soft reset (R150). -/
def Percussion.softReset (p : Percussion) : Percussion :=
  p.silent (if p.enable then .armed else .off)

/-- The outputs at a soft reset: no limiter acts on the port samples that this tick has still to form
(R178; assumption log 38). -/
def OutputUnit.softReset (o : OutputUnit) : OutputUnit :=
  { o with limiters := Vector.replicate 4 Limiter.reset, unlimited := true }

/-- The blocks but the Fault Unit at a soft reset (R57, R74, R92, R116, R134, R150, R178). -/
def State.softResetBlocks (s : State) : State :=
  ((((((s.setKey { s.key with records := Vector.replicate 147 KeyRecord.reset }).setSeq
    { s.seq with schedule := [] }).setBus BusMatrix.reset).setEng s.eng.softReset).setReg
    s.reg.softReset).setPrc s.prc.softReset).setOut s.out.softReset

/-- A condition that LNK or OUT reports as present after the records were cleared (R191). -/
def State.reraise (k : FaultKind) (present : Bool) (s : State) : State :=
  if present then (s.setRecord k { s.record k with present := true }).occur k else s

/-- The Fault Unit at a soft reset (R191); LNK and OUT answer with what they reported last, and no
notice is made (assumption log 15). -/
def State.softResetFaults (s : State) : State :=
  let linkLost := (s.record .linkLost).present
  let fallback := (s.record .clockFallback).present
  let s := (s.setFlt { s.flt with records := Vector.replicate 8 FaultRecord.clear }).refresh
  let s := (s.reraise .linkLost linkLost).reraise .clockFallback fallback
  s.setFlt { s.flt with pendingChanges := 0, noticeTimer := Timer.start, waiting := false }

/-- The soft reset (R41). What its own tick does with the limiters is assumption log 38. -/
def State.softReset (s : State) : State :=
  let s := (s.setReq { s.req with resetCause := .soft }).abandon
  let s := s.setReq { s.req with opState := .standby }
  s.softResetBlocks.softResetFaults.setCnt Counters.zero

end Sys2Proof.Machine
end

