-- ==== Sys2Proof/Machine/Tick.lean ====
section
/-!
DEFINITION. The tick: the processes that take one tick each, the end of a tick and the beginning of
the next, and the clock monitor that gives the ticks (10_audio_ports_and_output_limiting.md 10.1,
04_contact_sequencing.md 4.1). Each process runs when its own command asks for it, and at the latest
when the tick ends (assumption log 3).
-/

namespace Sys2Proof.Machine

/-! ### Store completions (R98, R103, R104, R112) -/

/-- The wheel is demanded (R78). -/
def State.demanded (s : State) (w : Wheel) : Bool := s.bus.demand[w] != 0

/-- The head LOAD completes, if it may at this tick (R103). -/
def State.loadTick (s : State) : State :=
  match s.eng.queue with
  | ⟨e, .load, w⟩ :: _ =>
    if s.eng.storeReady then s.setEngEasing (s.eng.loadComplete e w (s.demanded w)) else s
  | _ => s

/-- The flush is DONE when no write-back without a next wheel is left (R112). -/
def State.checkFlush (s : State) : State :=
  if s.req.inFlight = some .flushEngines ∧ s.eng.flushing = false then
    s.setReq { s.req with inFlight := none, lastResult := .done }
  else s

/-- The head WRITE_BACK completes, if it may at this tick (R104, R112). -/
def State.writeBackTick (s : State) : State :=
  match s.eng.queue with
  | ⟨e, .writeBack, v⟩ :: _ =>
    if s.eng.storeReady then (s.setEngEasing (s.eng.writeBackComplete e v s.demanded)).checkFlush else s
  | _ => s

/-! ### Other processes of a tick -/

/-- An engine's settle tick (R107). -/
def State.settleTick (e : EngineId) (s : State) : State := s.setEng (s.eng.settleTick e)

/-- The percussion halving timer takes its tick (R139). -/
def State.halvingTick (s : State) : State := s.setPrc (s.prc.halvingTick s.halvingPeriod)

/-- The silence timer takes its tick (R187). -/
def State.silenceTick (s : State) : State :=
  if s.flt.silence.due then
    let t := s.flt.silence.add
    match s.silenceWindow with
    | some n =>
      if n ≤ t.count then
        (s.setFlt { s.flt with silence := Timer.stopped }).conditionPresent .consoleSilence
      else s.setFlt { s.flt with silence := t }
    | none => s.setFlt { s.flt with silence := t }
  else s

/-- The notice timer takes its tick, up to 16,320, and a notice may fall due (R189). -/
def State.noticeTick (s : State) : State :=
  if s.flt.noticeTimer.due then
    let t := s.flt.noticeTimer.add
    (s.setFlt { s.flt with noticeTimer := { t with count := min 16320 t.count } }).checkNotice
  else s

/-- A waiting notice is queued when a place is free (R190). -/
def State.waitingNotice (s : State) : State :=
  if s.flt.waiting && s.noticePlace then s.queueNotice else s

/-- No frame has come on Cascade In in this tick (R168). Where EPISODE_START or EPISODE_END has run this
before the tick's frame is commanded, that frame counts as a second arrival (assumption log 21). -/
def State.cascadeMissing (s : State) : State :=
  if s.out.cascadeJudged then s else s.setOut s.out.badCascade

/-- The initialization, quiet and window timers and the restore cursor take their tick. -/
def State.tickLinkAndTables (s : State) : State := s.initTick.quietTick.windowTick.restoreTick

/-- Every engine takes its settle tick. -/
def State.settleTicks (s : State) : State := (List.finRange 64).foldl (fun s e => s.settleTick e) s

/-- The due schedule entries are applied, then a store request may complete, then engines settle. -/
def State.tickContactsAndEngines (s : State) : State :=
  (State.applyDue s.seq.schedule.length s).loadTick.writeBackTick.settleTicks

/-- Every click pulse whose time is over leaves. -/
def State.expireClicks (s : State) : State :=
  (List.range s.bus.clicks.length).foldl (fun s _ => s.expireClick) s

/-- Every manual's glide timer takes its tick. -/
def State.glideTicks (s : State) : State := allManuals.foldl (fun s m => s.glideTick m) s

/-- Clicks, glides, the percussion envelope and the rotors take their tick. -/
def State.tickSound (s : State) : State :=
  (s.expireClicks.glideTicks.halvingTick.rotorTick .horn).rotorTick .drum

/-- The Fault Unit's timers take their tick, and a tick without a cascade sample is judged. -/
def State.tickFaults (s : State) : State :=
  s.silenceTick.retryTicks.noticeTick.waitingNotice.cascadeMissing

/-- Every process of the present tick that has not yet run, in the model's fixed order (assumption
log 3). -/
def State.tickProcesses (s : State) : State :=
  s.tickLinkAndTables.tickContactsAndEngines.tickSound.tickFaults

/-- The present tick ends: its processes have run and its port samples are formed. -/
def State.finishTick (s : State) : State := s.tickProcesses.outputStage

/-- A record's retry timer at a new tick. -/
def FaultRecord.newTick (r : FaultRecord) : FaultRecord := { r with retry := r.retry.newTick }

/-- An engine at a new tick. -/
def Engine.newTick (e : Engine) : Engine := { e with ticked := false }

/-- A rotor at a new tick. -/
def Rotor.newTick (r : Rotor) : Rotor := { r with ticked := false }

/-- A new tick begins: the Tick Count advances, the wrap count with its wrap (R60, R95), the scanner
settings of the last tick come into force (R148), and every process has its tick before it. -/
def State.beginTick (s : State) : State where
  lnk := { s.lnk with windowTimer := s.lnk.windowTimer.newTick, quiet := s.lnk.quiet.newTick }
  req := { s.req with
    initTimer := s.req.initTimer.newTick
    cursor := s.req.cursor.map (fun c => { c with ticked := false }) }
  tab := s.tab
  key := s.key
  seq := { s.seq with tickCount := s.seq.tickCount + 1 }
  bus := s.bus
  eng := { s.eng with
    engines := s.eng.engines.map Engine.newTick
    wrap := if s.seq.tickCount = 65535 then s.eng.wrap + 1 else s.eng.wrap
    storeReady := true }
  reg := { s.reg with glide := s.reg.glide.map Timer.newTick }
  prc := { s.prc with halving := s.prc.halving.newTick, inForce := s.prc.setting }
  rot := { s.rot with horn := s.rot.horn.newTick, drum := s.rot.drum.newTick }
  out := { s.out with
    cascadeIn := 0, cascadeJudged := false, muteBefore := s.out.muteRequest, stepTaken := false
    unlimited := false }
  flt := { s.flt with
    records := s.flt.records.map FaultRecord.newTick
    silence := s.flt.silence.newTick
    noticeTimer := s.flt.noticeTimer.newTick }
  cnt := s.cnt
  pending := s.pending

/-- The sample clock gives a tick: the present tick ends and the next begins. -/
def State.giveTick (s : State) : State := s.finishTick.beginTick

/-! ### The clock monitor (R167) -/

/-- The judgment of a period: good within the accepted range, both ends included; bad when shorter or
longer (R167; assumption log 17). -/
inductive Period
  | short | good | long
  deriving DecidableEq, Repr

/-- The judgment of a period in seconds (R167). -/
def judgePeriod (p : Rat) : Period :=
  if p < 1 / 52000 then .short else if 1 / 40000 < p then .long else .good

/-- The source falls back to INTERNAL (R167). -/
def State.fallBack (s : State) : State :=
  (s.setOut { s.out with
    source := .internal, goodRun := 0, missing := 0, quietPeriods := 0, edgeSeen := false }).conditionPresent
    .clockFallback

/-- The source returns to EXTERNAL (R167). -/
def State.returnExternal (s : State) : State :=
  (s.setOut { s.out with source := .external, goodRun := 256, missing := 0 }).conditionAbsent
    .clockFallback

/-- A WCLK edge under source EXTERNAL (R167). -/
def State.externalEdge (p : Period) (s : State) : State :=
  match p with
  | .good => let s := s.giveTick; s.setOut { s.out with missing := 0 }
  | .short => s.fallBack
  | .long => s

/-- A WCLK edge under source INTERNAL (R167). -/
def State.internalEdge (p : Period) (s : State) : State :=
  let s := s.setOut { s.out with edgeSeen := true, quietPeriods := 0 }
  match p with
  | .good =>
    if s.out.goodRun + 1 < 256 then s.setOut { s.out with goodRun := s.out.goodRun + 1 }
    else s.giveTick.returnExternal
  | _ => s.setOut { s.out with goodRun := 0 }

/-- A WCLK edge that ends a period, none for the first edge (R167). -/
def State.clockEdge (p : Option Rat) (s : State) : State :=
  match p, s.out.source with
  | some t, .external => s.externalEdge (judgePeriod t)
  | some t, .internal => s.internalEdge (judgePeriod t)
  | none, .external => s
  | none, .internal => s.setOut { s.out with edgeSeen := true, quietPeriods := 0 }

/-- No edge within the longest accepted period under source EXTERNAL (R167). -/
def State.missEdge (s : State) : State :=
  if s.out.source = .external then
    let s := s.giveTick
    let s := s.setOut { s.out with missing := s.out.missing + 1 }
    if 4 ≤ s.out.missing then s.fallBack else s
  else s

/-- The internal oscillator gives a tick under source INTERNAL, and an internal period ends (R167). -/
def State.oscillatorTick (s : State) : State :=
  if s.out.source = .internal then
    let s := s.giveTick
    let quiet := if s.out.edgeSeen then 0 else min 4 (s.out.quietPeriods + 1)
    s.setOut { s.out with
      edgeSeen := false
      quietPeriods := quiet
      goodRun := if quiet = 4 then 0 else s.out.goodRun }
  else s

end Sys2Proof.Machine
end

