-- ==== Sys2Proof/Machine/Requests.lean ====
section
/-!
DEFINITION. The Request Unit: taking a request, the checks of WRITE, READ and COMMAND, carrying them
out and answering them (02_requests_tables_and_commands.md).
-/

namespace Sys2Proof.Machine

/-- What comes of a request: its status, the reply's data, and the state it leaves (R28). -/
structure Answer where
  status : Status
  data : List Word
  state : State

/-- A refused request changes nothing (R28). -/
def refused (status : Status) (s : State) : Answer := ⟨status, [], s⟩

/-- A request carried out, answered OK without data (R28). -/
def answered (s : State) : Answer := ⟨.ok, [], s⟩

/-- An addressed request without room for a reply is not carried out (R10, R28). -/
def State.dropReply (s : State) : State :=
  s.count (fun c => { c with replyDrops := c.replyDrops + 1 })

/-- Take one request: an addressed one holds a place, is carried out and answered; a broadcast one is
carried out and not answered (R28). -/
def State.answer (h : Head) (echo : Nat) (act : State → Answer) (s : State) : State :=
  match h.sent with
  | .broadcast => (act s).state
  | .addressed =>
    if s.replyFull then s.dropReply
    else
      let a := act s.holdReplyPlace
      a.state.queueReply h.tag a.status echo a.data

/-- Every request but a READ of the Status table is answered NOT_READY in INITIALIZING (R26). -/
def whenReady (act : State → Answer) (s : State) : Answer :=
  if s.req.opState = .initializing then refused .notReady s else act s

/-- The table is under RESTORE_FACTORY (R40). -/
def State.restoring (s : State) (t : TableId) : Bool :=
  match s.req.cursor with
  | some c => c.table == t
  | none => false

/-- An entry of the Key Map now maps to a key that is not UP (R46). -/
def State.entryInUse (s : State) (i : Nat) : Bool :=
  match keyOfWord (wordAt s.tab.keyMap i) with
  | some k => s.keyState k != .up
  | none => false

/-! ### WRITE (R31, R32) -/

/-- Checks 3 to 9 of a WRITE of a table (R31); OK when it passes. -/
def State.writeCheck (s : State) (t : TableId) (payload : List Word) : Status :=
  let count := requestLow payload
  let start := (payload.getD 1 0).toNat
  let es := dataEntries (tableWidth t) start count (payload.drop 2)
  if count = 0 ∨ payload.length ≠ 2 + count * tableWidth t then .badLength
  else if tableWritable t = false then .readOnly
  else if t = .wheelPitch ∧ s.req.opState = .playing then .wrongState
  else if tableEntries t < start + count then .badIndex
  else if es.all (fun e => entryOk t e.1 e.2) = false then .badValue
  else if t = .keyMap ∧ es.any (fun e => s.entryInUse e.1) then .inUse
  else if s.restoring t then .busy
  else .ok

/-- A WRITE, checked and carried out (R31, R32). -/
def actWrite (payload : List Word) (s : State) : Answer :=
  if payload.length < 2 then refused .badLength s
  else
    match tableOfId (requestHigh payload) with
    | none => refused .badTable s
    | some t =>
      match s.writeCheck t payload with
      | .ok =>
        answered (s.writeEntries t (dataEntries (tableWidth t) (payload.getD 1 0).toNat
          (requestLow payload) (payload.drop 2)))
      | st => refused st s

/-- A taken WRITE request (R28, R29). -/
def State.takeWrite (h : Head) (payload : List Word) (s : State) : State :=
  s.answer h (requestHigh payload) (whenReady (actWrite payload))

/-! ### READ (R33) -/

/-- Checks 3 to 5 of a READ of a table (R33); OK when it passes. -/
def State.readCheck (s : State) (t : TableId) (payload : List Word) : Status :=
  let count := requestLow payload
  let start := (payload.getD 1 0).toNat
  if count = 0 ∨ 14 < count * tableWidth t then .badLength
  else if tableEntries t < start + count then .badIndex
  else if s.restoring t then .busy
  else .ok

/-- The words of some entries of a table, in index order (R33). -/
def State.readEntries (s : State) (t : TableId) (start count : Nat) : List Word :=
  (List.range count).flatMap (fun j => s.entryWords t (start + j))

/-- A READ, checked and answered (R33); the place its reply takes is no part of any table. -/
def actRead (payload : List Word) (s : State) : Answer :=
  if payload.length ≠ 2 then refused .badLength s
  else
    match tableOfId (requestHigh payload) with
    | none => refused .badTable s
    | some t =>
      match s.readCheck t payload with
      | .ok => ⟨.ok, s.readEntries t (payload.getD 1 0).toNat (requestLow payload), s⟩
      | st => refused st s

/-- A READ in any operating state: in INITIALIZING only one that names the Status table is checked
(R26). -/
def actReadAnyState (payload : List Word) (s : State) : Answer :=
  if s.req.opState = .initializing ∧ ¬ (1 ≤ payload.length ∧ requestHigh payload = 15) then
    refused .notReady s
  else actRead payload s

/-- A taken READ request; a broadcast READ is discarded (R7, R28). -/
def State.takeRead (h : Head) (payload : List Word) (s : State) : State :=
  match h.sent with
  | .broadcast => s
  | .addressed => s.answer h (requestHigh payload) (actReadAnyState payload)

/-! ### Commands (R34 to R41) -/

/-- The operating state changes and is signalled (R27). -/
def State.changeOpState (o : OpState) (s : State) : State :=
  s.asEvent (fun s => (s.setReq { s.req with opState := o }).refresh)

/-- PLAY (R34, R35). -/
def actPlay (arg : Nat) (_ : List Word) (s : State) : Answer :=
  if arg ≠ 0 then refused .badValue s
  else if s.req.opState = .playing then answered s
  else if s.req.cursor.isSome then refused .wrongState s
  else answered (s.changeOpState .playing)

/-- STANDBY (R35). -/
def actStandby (arg : Nat) (_ : List Word) (s : State) : Answer :=
  if arg ≠ 0 then refused .badValue s
  else if s.req.opState = .playing then answered ((s.release allManuals).changeOpState .standby)
  else answered s

/-- ALL_KEYS_UP (R36). -/
def actAllKeysUp (arg : Nat) (_ : List Word) (s : State) : Answer :=
  if inRange arg 1 7 then answered (s.release (manualsOfMask arg)) else refused .badValue s

/-- CLEAR_FAULTS (R36, R184). -/
def actClearFaults (arg : Nat) (_ : List Word) (s : State) : Answer :=
  if arg ≠ 0 then refused .badValue s else answered s.clearFaults

/-- SELECT_PRESET (R36, R123, R124, R127). -/
def actSelectPreset (arg : Nat) (rest : List Word) (s : State) : Answer :=
  let w := rest.headD 0
  let p := Fin.ofNat 16 (bitsOf w 13 10)
  if arg ≠ 0 ∨ bitsOf w 7 0 ≠ 0 then refused .badValue s
  else
    match manualOfCode (bitsOf w 15 14), bitsOf w 9 8 with
    | some m, 0 => answered (s.selectNow m p)
    | some m, 1 => answered (s.selectGlide m p)
    | some m, 2 => answered (s.selectNextPlay m p)
    | _, _ => refused .badValue s

/-- FLUSH_ENGINES (R38, R39, R111). -/
def actFlush (arg : Nat) (_ : List Word) (s : State) : Answer :=
  if arg ≠ 0 then refused .badValue s
  else if s.req.inFlight.isSome then refused .busy s
  else
    ⟨.accepted, [],
      ((s.setReq { s.req with inFlight := some .flushEngines }).setEng s.eng.flush).checkFlush⟩

/-- RESTORE_FACTORY (R38, R40). -/
def actRestore (arg : Nat) (_ : List Word) (s : State) : Answer :=
  if s.req.opState = .playing then refused .wrongState s
  else
    match tableOfId arg with
    | none => refused .badValue s
    | some t =>
      if tableWritable t = false then refused .badValue s
      else if s.req.inFlight.isSome then refused .busy s
      else
        ⟨.accepted, [],
          s.setReq { s.req with inFlight := some .restoreFactory, cursor := some ⟨t, 0, true⟩ }⟩

/-- CLEAR_COUNTERS (R37). -/
def actClearCounters (arg : Nat) (_ : List Word) (s : State) : Answer :=
  if arg ≠ 0 then refused .badValue s else answered (s.setCnt Counters.zero)

/-- The check of SOFT_RESET; the reset itself follows its reply (R41). -/
def actSoftReset (arg : Nat) (_ : List Word) (s : State) : Answer :=
  if arg ≠ 0 then refused .badValue s else answered s

/-- The action of a command code (R22); none for an unassigned code (R34). -/
def commandAction (code : Nat) : Option (Nat → List Word → State → Answer) :=
  match code with
  | 1 => some actPlay
  | 2 => some actStandby
  | 3 => some actAllKeysUp
  | 4 => some actClearFaults
  | 5 => some actSelectPreset
  | 6 => some actFlush
  | 7 => some actRestore
  | 8 => some actClearCounters
  | 9 => some actSoftReset
  | _ => none

/-- The Length a command needs (R34). -/
def commandLength (code : Nat) : Nat := if code = 5 then 2 else 1

/-- A COMMAND, checked and carried out (R34). -/
def actCommand (payload : List Word) (s : State) : Answer :=
  if payload.length = 0 then refused .badLength s
  else
    match commandAction (requestHigh payload) with
    | none => refused .unknownCommand s
    | some act =>
      if payload.length ≠ commandLength (requestHigh payload) then refused .badLength s
      else act (requestLow payload) payload.tail s

/-- A taken COMMAND is carried out as a soft reset: it is SOFT_RESET, it passes its checks, and it is
not turned away for want of a reply place (R28, R41). -/
def State.softResetTaken (s : State) (h : Head) (payload : List Word) : Bool :=
  requestHigh payload == 9 && (whenReady (actCommand payload) s).status == .ok &&
    !(h.sent == .addressed && s.replyFull)

/-- A taken COMMAND request; a soft reset takes effect after its reply is queued (R28, R41). -/
def State.takeCommand (h : Head) (payload : List Word) (s : State) : State :=
  let t := s.answer h (requestHigh payload) (whenReady (actCommand payload))
  if s.softResetTaken h payload then t.softReset else t

/-! ### Unassigned kinds (R7) -/

/-- A taken frame of an unassigned downstream kind is counted, and answered when addressed (R7, R28). The
echo is the received Kind, also for a frame of Length 0 (R22, R29; assumption log 36). -/
def State.takeUnknown (h : Head) (kind : Nat) (s : State) : State :=
  let s := s.count (fun c => { c with unknownKinds := c.unknownKinds + 1 })
  s.answer h kind (refused .unknownKind)

end Sys2Proof.Machine
end

