-- ==== Sys2Proof/Machine/Link.lean ====
section
/-!
DEFINITION. The receiver: link words, frame assembly, the receive checks, the station filter, the
Forward Queue's admission, and what a taken frame comes to (01_the_console_link.md 1.1 to 1.6).
-/

namespace Sys2Proof.Machine

/-! ### Taken frames (R6, R7) -/

/-- A frame has been taken: the silence timer restarts and CONSOLE_SILENCE goes absent (R7, R187);
with window code 0 and in INITIALIZING the timer stays stopped (R191; assumption log 28). -/
def State.frameTaken (s : State) : State :=
  let s := if s.req.opState = .initializing ∨ s.silenceWindow = none then s
    else s.setFlt { s.flt with silence := Timer.start }
  s.conditionAbsent .consoleSilence

/-- A taken frame goes to the block that acts on it (R7). -/
def State.dispatch (header : Word) (payload : List Word) (s : State) : State :=
  let sent := if headerStation header = broadcastStation then Addressing.broadcast else .addressed
  let h : Head := ⟨sent, headerTag header⟩
  match headerKind header with
  | 0 => payload.foldl State.keyWord s
  | 1 => payload.foldl State.controlWord s
  | 2 => s.takeWrite h payload
  | 3 => s.takeRead h payload
  | 4 => s.takeCommand h payload
  | k => s.takeUnknown h k

/-! ### The Forward Queue (R8, R9) -/

/-- The capacity of the Forward Queue in words. -/
def forwardCapacity : Nat := 64

/-- The words of room that the frames of the queue reserve (R8). -/
def reservedWords (q : List ForwardFrame) : Nat := (q.map (fun f => f.room)).sum

/-- The frame still being received is the last of the queue; it takes a word (R9). -/
def receiveWord (q : List ForwardFrame) (w : Word) : List ForwardFrame :=
  q.map (fun f => if f.complete then f else { f with words := f.words ++ [w] })

/-- The frame still being received has ended as good: it is eligible (R9). -/
def receiveDone (q : List ForwardFrame) : List ForwardFrame := q.map (fun f => { f with complete := true })

/-- The frame still being received has been dropped: it leaves, with its reservation (R9). -/
def receiveDropped (q : List ForwardFrame) : List ForwardFrame := q.filter (fun f => f.complete)

/-! ### Frame assembly (R3, R5, R6, R8) -/

/-- The station filter's answers for a header: taken, and forwarded (R6). Station 31 is broadcast even
at a listening station (R17; assumption log 27). -/
def stationFilter (station : Nat) (header : Word) : Bool × Bool :=
  if 8 ≤ headerKind header then (false, true)
  else if headerStation header = broadcastStation then (true, true)
  else if headerStation header = station then (true, false)
  else (false, true)

/-- A good marker word of Kind 0 to 14 opens a frame; the Forward Queue admits or refuses it (R3, R6,
R8). -/
def State.openFrame (w : Word) (s : State) : State :=
  let filter := stationFilter s.station w
  let need := 2 + headerLength w
  let fits := decide (reservedWords s.lnk.forward + need ≤ forwardCapacity)
  let forwarding := if filter.2 then (if fits then Forwarding.admitted else .refused) else .notForwarded
  let s := if forwarding = .refused then
      s.count (fun c => { c with forwardDrops := c.forwardDrops + 1 })
    else s
  s.setLnk { s.lnk with
    assembly := some ⟨[w], false, filter.1, forwarding⟩
    forward := if forwarding = .admitted then s.lnk.forward ++ [⟨[w], need, false⟩] else s.lnk.forward }

/-- The assembly ends: no frame is in assembly, and the Forward Queue has its answer (R9). -/
def State.closeAssembly (a : Assembly) (good : Bool) (s : State) : State :=
  s.setLnk { s.lnk with
    assembly := none
    forward := if a.forwarding = .admitted then
        (if good then receiveDone s.lnk.forward else receiveDropped s.lnk.forward)
      else s.lnk.forward }

/-- A Check Drop; a frame that the Forward Queue refused is counted only as a Forward Drop (R5, R8). -/
def State.checkDrop (a : Assembly) (s : State) : State :=
  let s := s.closeAssembly a false
  if a.forwarding = .refused then s
  else (s.count (fun c => { c with checkDrops := c.checkDrops + 1 })).raiseEvent .linkErrors

/-- A Short Frame (R5, R8). -/
def State.shortFrame (a : Assembly) (s : State) : State :=
  let s := s.closeAssembly a false
  if a.forwarding = .refused then s
  else s.count (fun c => { c with shortFrames := c.shortFrames + 1 })

/-- A good frame: counted, forwarded, and taken as the filter has decided (R5, R6, R7). -/
def State.goodFrame (a : Assembly) (s : State) : State :=
  let s := (s.closeAssembly a true).count (fun c => { c with goodFrames := c.goodFrames + 1 })
  if a.take then s.frameTaken.dispatch (a.words.headD 0) a.words.tail.dropLast else s

/-- The frame in assembly is complete: it is judged (R5). -/
def State.endFrame (a : Assembly) (s : State) : State :=
  if a.failed || !checkPasses a.words then s.checkDrop a else s.goodFrame a

/-- A word takes the next place of the frame in assembly (R3). -/
def State.addWord (a : Assembly) (w : Word) (bad : Bool) (s : State) : State :=
  let a := { a with words := a.words ++ [w], failed := a.failed || bad }
  let s := if a.forwarding = .admitted then
      s.setLnk { s.lnk with forward := receiveWord s.lnk.forward w }
    else s
  if 2 + headerLength (a.words.headD 0) ≤ a.words.length then s.endFrame a
  else s.setLnk { s.lnk with assembly := some a }

/-- A good marker word outside any frame (R3). -/
def State.markerWord (w : Word) (s : State) : State :=
  let s := s.setLnk { s.lnk with sinceLock := false }
  if headerKind w = 15 then s else s.openFrame w

/-- A good marker-clear word outside any frame; uncounted in the interval after a lock (R3). -/
def State.strayWord (s : State) : State :=
  if s.lnk.sinceLock then s
  else s.count (fun c => { c with strayWords := c.strayWords + 1 })

/-- A good word while LINKED (R1, R3). -/
def State.goodLinkedWord (w : LinkWord) (s : State) : State :=
  let s := s.setLnk { s.lnk with loss := 0, quiet := Timer.start }
  match s.lnk.assembly with
  | none => if w.marker then s.markerWord w.data else s.strayWord
  | some a =>
    if w.marker then
      (if a.failed then s.checkDrop a else s.shortFrame a).markerWord w.data
    else s.addWord a w.data false

/-- A bad word while LINKED (R1, R3, R16). -/
def State.badLinkedWord (w : LinkWord) (s : State) : State :=
  let s := s.setLnk { s.lnk with loss := s.lnk.loss + 1 }
  let s := match s.lnk.assembly with
    | none => s
    | some a => s.addWord a w.data true
  if 64 ≤ s.lnk.loss then s.lose else s

/-- A word while SEARCHING (R13, R14). -/
def State.searchingWord (good : Bool) (s : State) : State :=
  if good then
    let s := s.setLnk { s.lnk with lockRun := s.lnk.lockRun + 1 }
    if 8 ≤ s.lnk.lockRun then s.lock else s
  else s.setLnk { s.lnk with lockRun := 0 }

/-- A link word arrives at LINK_IN (R1, R3, R13). -/
def State.linkWordIn (w : LinkWord) (s : State) : State :=
  if s.lnk.linked then
    if goodWord w then s.goodLinkedWord w else s.badLinkedWord w
  else s.searchingWord (goodWord w)

end Sys2Proof.Machine
end

