-- ==== Sys2Proof/Machine/ResetCommands.lean ====
section
/-!
DEFINITION. The meanings of the reset commands: POWER_ON, RESET_PIN, RESET_RELEASE,
INITIALIZATION_DONE, SOFT_RESET.
-/

namespace Sys2Proof.Machine

/-- A command while every block is held in full reset changes nothing (R42; assumption log 18). -/
def whenRunning (f : State → State) (s : State) : Host.Outcome State Fault Refusal :=
  .next (if s.req.held then s else f s)

/-- POWER_ON (R42). -/
def execPowerOn (s : State) : Host.Outcome State Fault Refusal := .next (s.fullReset .powerOn)

/-- RESET_PIN (R42). -/
def execResetPin (s : State) : Host.Outcome State Fault Refusal := .next (s.fullReset s.pinCause)

/-- RESET_RELEASE: it ends a full reset that is being held (R17, R26, R42). -/
def execResetRelease (strap : BitVec 5) (s : State) : Host.Outcome State Fault Refusal :=
  .next (if s.req.held then s.releaseReset strap else s)

/-- INITIALIZATION_DONE: the initialization timer's tick (R26). -/
def execInitializationDone (s : State) : Host.Outcome State Fault Refusal := whenRunning State.initTick s

/-- SOFT_RESET (R41). -/
def execSoftReset (h : Head) (arg : BitVec 8) (rest : List Word) (s : State) :
    Host.Outcome State Fault Refusal :=
  whenRunning (State.takeCommand h (commandPayload 9 arg rest)) s

end Sys2Proof.Machine
end

