-- ==== Sys2Proof/Machine/LinkCommands.lean ====
section
/-!
DEFINITION. The meanings of the Link Unit's commands: LINK_WORD, QUIET_TIMER_EXPIRY, SEARCH_WINDOW_END,
TRANSMITTER_FREE, UNKNOWN_KIND.
-/

namespace Sys2Proof.Machine

/-- LINK_WORD (R1, R3, R13); a frame it completes is handled whole in this step (assumption log 4). -/
def execLinkWord (w : LinkWord) (s : State) :
    Host.Outcome State Fault Refusal :=
  whenRunning (State.linkWordIn w) s

/-- QUIET_TIMER_EXPIRY: the quiet timer's tick (R16; assumption log 5). -/
def execQuietTimerExpiry (s : State) :
    Host.Outcome State Fault Refusal :=
  whenRunning State.quietTick s

/-- SEARCH_WINDOW_END: the window timer's tick (R13, R15). -/
def execSearchWindowEnd (s : State) :
    Host.Outcome State Fault Refusal :=
  whenRunning State.windowTick s

/-- TRANSMITTER_FREE (R11, R12). -/
def execTransmitterFree (s : State) :
    Host.Outcome State Fault Refusal :=
  whenRunning (fun s => s.setLnk s.lnk.transmitterFree) s

/-- UNKNOWN_KIND (R7, R28). -/
def execUnknownKind (h : Head) (kind : UnassignedKind) (s : State) :
    Host.Outcome State Fault Refusal :=
  whenRunning (State.takeUnknown h (unassignedKindCode kind)) s

end Sys2Proof.Machine
end

