-- ==== Sys2Proof/Machine/RequestCommands.lean ====
section
/-!
DEFINITION. The meanings of the requests: WRITE in its rows, READ and the commands but SOFT_RESET.
-/

namespace Sys2Proof.Machine

/-- The Link Settings entry at which a write of notice settings starts (R18). -/
def noticeIndex : NoticeEntry → Word
  | .enableAndCount => 2
  | .time => 3

/-- WRITE (R31, R32). -/
def execWrite (h : Head) (payload : List Word) (s : State) :
    Host.Outcome State Fault Refusal :=
  whenRunning (State.takeWrite h payload) s

/-- WRITE_KEY_MAP: a WRITE of table 1 (R46). -/
def execWriteKeyMap (h : Head) (count : BitVec 8) (start : Word) (data : List Word) (s : State) :
    Host.Outcome State Fault Refusal :=
  whenRunning (State.takeWrite h (writePayload 1 count start data)) s

/-- WRITE_WHEEL_PITCH: a WRITE of table 4 (R95). -/
def execWriteWheelPitch (h : Head) (count : BitVec 8) (start : Word) (data : List Word) (s : State) :
    Host.Outcome State Fault Refusal :=
  whenRunning (State.takeWrite h (writePayload 4 count start data)) s

/-- WRITE_FAULT_CONFIGURATION: a WRITE of table 10 (R185). -/
def execWriteFaultConfiguration (h : Head) (count : BitVec 8) (start : Word) (data : List Word) (s : State) :
    Host.Outcome State Fault Refusal :=
  whenRunning (State.takeWrite h (writePayload 10 count start data)) s

/-- WRITE_STATION_NUMBER: a WRITE of entry 0 of table 11 (R18). -/
def execWriteStationNumber (h : Head) (value : Word) (s : State) :
    Host.Outcome State Fault Refusal :=
  whenRunning (State.takeWrite h (writePayload 11 1 0 [value])) s

/-- WRITE_SILENCE_WINDOW: a WRITE of entry 1 of table 11 (R187). -/
def execWriteSilenceWindow (h : Head) (value : Word) (s : State) :
    Host.Outcome State Fault Refusal :=
  whenRunning (State.takeWrite h (writePayload 11 1 1 [value])) s

/-- WRITE_NOTICE_SETTINGS: a WRITE of entries 2 and 3 of table 11 (R189). -/
def execWriteNoticeSettings (h : Head) (first : NoticeEntry) (data : List Word) (s : State) :
    Host.Outcome State Fault Refusal :=
  whenRunning
    (State.takeWrite h (writePayload 11 (BitVec.ofNat 8 data.length) (noticeIndex first) data)) s

/-- WRITE_ROTOR_SETTINGS: a WRITE of table 13 (R155). -/
def execWriteRotorSettings (h : Head) (count : BitVec 8) (start : Word) (data : List Word) (s : State) :
    Host.Outcome State Fault Refusal :=
  whenRunning (State.takeWrite h (writePayload 13 count start data)) s

/-- WRITE_OUTPUT_SETTINGS: a WRITE of table 14 (R176). -/
def execWriteOutputSettings (h : Head) (count : BitVec 8) (start : Word) (data : List Word) (s : State) :
    Host.Outcome State Fault Refusal :=
  whenRunning (State.takeWrite h (writePayload 14 count start data)) s

/-- READ (R33). -/
def execRead (h : Head) (payload : List Word) (s : State) :
    Host.Outcome State Fault Refusal :=
  whenRunning (State.takeRead h payload) s

/-- PLAY (R35). -/
def execPlay (h : Head) (arg : BitVec 8) (rest : List Word) (s : State) :
    Host.Outcome State Fault Refusal :=
  whenRunning (State.takeCommand h (commandPayload 1 arg rest)) s

/-- STANDBY (R35). -/
def execStandby (h : Head) (arg : BitVec 8) (rest : List Word) (s : State) :
    Host.Outcome State Fault Refusal :=
  whenRunning (State.takeCommand h (commandPayload 2 arg rest)) s

/-- ALL_KEYS_UP (R36). -/
def execAllKeysUp (h : Head) (arg : BitVec 8) (rest : List Word) (s : State) :
    Host.Outcome State Fault Refusal :=
  whenRunning (State.takeCommand h (commandPayload 3 arg rest)) s

/-- CLEAR_FAULTS (R184). -/
def execClearFaults (h : Head) (arg : BitVec 8) (rest : List Word) (s : State) :
    Host.Outcome State Fault Refusal :=
  whenRunning (State.takeCommand h (commandPayload 4 arg rest)) s

/-- SELECT_PRESET in mode NOW (R123). -/
def execSelectPresetNow (h : Head) (arg : BitVec 8) (manual : BitVec 2) (preset : BitVec 4) (low : BitVec 8) (s : State) :
    Host.Outcome State Fault Refusal :=
  whenRunning (State.takeCommand h (commandPayload 5 arg [presetWord manual preset 0 low])) s

/-- SELECT_PRESET in mode GLIDE (R124). -/
def execSelectPresetGlide (h : Head) (arg : BitVec 8) (manual : BitVec 2) (preset : BitVec 4) (low : BitVec 8) (s : State) :
    Host.Outcome State Fault Refusal :=
  whenRunning (State.takeCommand h (commandPayload 5 arg [presetWord manual preset 1 low])) s

/-- SELECT_PRESET in mode NEXT_PLAY (R127). -/
def execSelectPresetNextPlay (h : Head) (arg : BitVec 8) (manual : BitVec 2) (preset : BitVec 4) (low : BitVec 8) (s : State) :
    Host.Outcome State Fault Refusal :=
  whenRunning (State.takeCommand h (commandPayload 5 arg [presetWord manual preset 2 low])) s

/-- FLUSH_ENGINES (R39, R111). -/
def execFlushEngines (h : Head) (arg : BitVec 8) (rest : List Word) (s : State) :
    Host.Outcome State Fault Refusal :=
  whenRunning (State.takeCommand h (commandPayload 6 arg rest)) s

/-- RESTORE_FACTORY (R40). -/
def execRestoreFactory (h : Head) (arg : BitVec 8) (rest : List Word) (s : State) :
    Host.Outcome State Fault Refusal :=
  whenRunning (State.takeCommand h (commandPayload 7 arg rest)) s

/-- RESTORE_STEP: the restore cursor's tick (R40). -/
def execRestoreStep (s : State) :
    Host.Outcome State Fault Refusal :=
  whenRunning State.restoreTick s

/-- CLEAR_COUNTERS (R37). -/
def execClearCounters (h : Head) (arg : BitVec 8) (rest : List Word) (s : State) :
    Host.Outcome State Fault Refusal :=
  whenRunning (State.takeCommand h (commandPayload 8 arg rest)) s

end Sys2Proof.Machine
end

