-- ==== Sys2Proof/Machine/KeyCommands.lean ====
section
/-!
DEFINITION. The meanings of the key, contact, click and engine commands.
-/

namespace Sys2Proof.Machine

/-- KEY_DOWN (R49). -/
def execKeyDown (source : BitVec 2) (raw : BitVec 7) (travel : BitVec 6) (s : State) :
    Host.Outcome State Fault Refusal :=
  whenRunning (State.keyEvent source raw true travel) s

/-- KEY_UP (R51). -/
def execKeyUp (source : BitVec 2) (raw : BitVec 7) (travel : BitVec 6) (s : State) :
    Host.Outcome State Fault Refusal :=
  whenRunning (State.keyEvent source raw false travel) s

/-- SCHEDULE_ENTRY_DUE: the head is applied if it is due (R67; assumption log 5). -/
def execScheduleEntryDue (s : State) :
    Host.Outcome State Fault Refusal :=
  whenRunning State.applyHead s

/-- CLICK_PULSE_EXPIRY: the oldest pulse leaves if it has sounded its 16 ticks (R89). -/
def execClickPulseExpiry (s : State) :
    Host.Outcome State Fault Refusal :=
  whenRunning State.expireClick s

/-- LOAD_COMPLETE: the head request completes if it is a LOAD and may complete at this tick (R98, R103). -/
def execLoadComplete (s : State) :
    Host.Outcome State Fault Refusal :=
  whenRunning State.loadTick s

/-- WRITE_BACK_COMPLETE: the head request completes if it is a WRITE_BACK and may complete at this tick
(R98, R104, R112). -/
def execWriteBackComplete (s : State) :
    Host.Outcome State Fault Refusal :=
  whenRunning State.writeBackTick s

/-- SETTLE_DONE: an engine's settle tick (R107). -/
def execSettleDone (e : EngineId) (s : State) :
    Host.Outcome State Fault Refusal :=
  whenRunning (State.settleTick e) s

end Sys2Proof.Machine
end

