-- ==== Sys2Proof/Machine/ControlCommands.lean ====
section
/-!
DEFINITION. The meanings of the control moves.
-/

namespace Sys2Proof.Machine

/-- CONTROL_ERROR: a control word that R119 does not accept. -/
def execControlError (id : BitVec 8) (value : BitVec 8) (s : State) :
    Host.Outcome State Fault Refusal :=
  whenRunning (State.controlMove id.toNat value.toNat) s

/-- DRAWBAR_MOVE (R120). -/
def execDrawbarMove (m : Manual) (n : Fin 9) (value : BitVec 8) (s : State) :
    Host.Outcome State Fault Refusal :=
  whenRunning (State.controlMove (drawbarControl m n) value.toNat) s

/-- EXPRESSION_MOVE (R130). -/
def execExpressionMove (value : BitVec 8) (s : State) :
    Host.Outcome State Fault Refusal :=
  whenRunning (State.controlMove 48 value.toNat) s

/-- PERCUSSION_ENABLE (R141). -/
def execPercussionEnable (value : BitVec 8) (s : State) :
    Host.Outcome State Fault Refusal :=
  whenRunning (State.controlMove 49 value.toNat) s

/-- PERCUSSION_SWITCH (R135). -/
def execPercussionSwitch (which : PercussionControl) (value : BitVec 8) (s : State) :
    Host.Outcome State Fault Refusal :=
  whenRunning (State.controlMove (percussionControl which) value.toNat) s

/-- SCANNER_MOVE (R148). -/
def execScannerMove (which : ScannerControl) (value : BitVec 8) (s : State) :
    Host.Outcome State Fault Refusal :=
  whenRunning (State.controlMove (scannerControl which) value.toNat) s

/-- ROTOR_SELECT (R151, R153). -/
def execRotorSelect (value : BitVec 8) (s : State) :
    Host.Outcome State Fault Refusal :=
  whenRunning (State.controlMove 64 value.toNat) s

/-- ROTOR_BRAKE (R151, R154). -/
def execRotorBrake (value : BitVec 8) (s : State) :
    Host.Outcome State Fault Refusal :=
  whenRunning (State.controlMove 65 value.toNat) s

/-- CONTROL_RELEASE (R56). -/
def execControlRelease (value : BitVec 8) (s : State) :
    Host.Outcome State Fault Refusal :=
  whenRunning (State.controlMove 72 value.toNat) s

end Sys2Proof.Machine
end

