-- ==== Sys2Proof/Machine/TimedCommands.lean ====
section
/-!
DEFINITION. The meanings of the timed processes and of the clock and audio inputs. A timed command is the
process's own tick: what happens when its time has not come is that tick and no more (assumption
log 5).
-/

namespace Sys2Proof.Machine

/-- GLIDE_STEP: a manual's glide timer's tick (R125). -/
def execGlideStep (m : Manual) (s : State) :
    Host.Outcome State Fault Refusal :=
  whenRunning (State.glideTick m) s

/-- HALVING: the halving timer's tick (R139). -/
def execHalving (s : State) :
    Host.Outcome State Fault Refusal :=
  whenRunning State.halvingTick s

/-- BOUNDARY_STEP: the tick of both rotors (R156, R159). -/
def execBoundaryStep (s : State) :
    Host.Outcome State Fault Refusal :=
  whenRunning (fun s => (s.rotorTick .horn).rotorTick .drum) s

/-- PARKING_CHECK: the tick of one rotor (R158, R159). -/
def execParkingCheck (r : RotorId) (s : State) :
    Host.Outcome State Fault Refusal :=
  whenRunning (State.rotorTick r) s

/-- WCLK_EDGE (R167). -/
def execWclkEdge (period : Option Rat) (s : State) :
    Host.Outcome State Fault Refusal :=
  whenRunning (State.clockEdge period) s

/-- MISSING_EDGE (R167). -/
def execMissingEdge (s : State) :
    Host.Outcome State Fault Refusal :=
  whenRunning State.missEdge s

/-- CASCADE_SAMPLE (R168). -/
def execCascadeSample (frame : CascadeFrame) (s : State) :
    Host.Outcome State Fault Refusal :=
  whenRunning (fun s => s.setOut (s.out.cascade frame)) s

/-- EPISODE_START: the output stage's step, after the processes of the tick (R172, R173; assumption
log 22). -/
def execEpisodeStart (s : State) :
    Host.Outcome State Fault Refusal :=
  whenRunning State.finishTick s

/-- EPISODE_END: the output stage's step, after the processes of the tick (R172, R174; assumption
log 22). -/
def execEpisodeEnd (s : State) :
    Host.Outcome State Fault Refusal :=
  whenRunning (fun s => s.tickProcesses.outputStage) s

/-- RETRY_EXPIRY: a record's retry timer's tick (R183). -/
def execRetryExpiry (k : FaultKind) (s : State) :
    Host.Outcome State Fault Refusal :=
  whenRunning (State.retryTick k) s

/-- CONSOLE_SILENCE_EXPIRY: the silence timer's tick (R187). -/
def execConsoleSilenceExpiry (s : State) :
    Host.Outcome State Fault Refusal :=
  whenRunning State.silenceTick s

/-- NOTICE_TIME_EXPIRY: the notice timer's tick (R189). -/
def execNoticeTimeExpiry (s : State) :
    Host.Outcome State Fault Refusal :=
  whenRunning State.noticeTick s

/-- NOTICE_WAITING_QUEUED: a waiting notice takes a free place (R190). -/
def execNoticeWaitingQueued (s : State) :
    Host.Outcome State Fault Refusal :=
  whenRunning State.waitingNotice s

/-- INTERNAL_OSCILLATOR_TICK (R167). -/
def execInternalOscillatorTick (s : State) :
    Host.Outcome State Fault Refusal :=
  whenRunning State.oscillatorTick s

end Sys2Proof.Machine
end

