-- ==== Sys2Proof/Machine/Dispatch.lean ====
section
/-!
DEFINITION. The meaning of every command: one arm for each constructor.
-/

namespace Sys2Proof.Machine

/-- A command's effect on everything but the queue. -/
def exec (i : Instr) (s : State) : Host.Outcome State Fault Refusal :=
  match i with
  | .powerOn => Sys2Proof.Machine.execPowerOn s
  | .resetPin => Sys2Proof.Machine.execResetPin s
  | .resetRelease strap => Sys2Proof.Machine.execResetRelease strap s
  | .initializationDone => Sys2Proof.Machine.execInitializationDone s
  | .linkWord w => Sys2Proof.Machine.execLinkWord w s
  | .quietTimerExpiry => Sys2Proof.Machine.execQuietTimerExpiry s
  | .searchWindowEnd => Sys2Proof.Machine.execSearchWindowEnd s
  | .transmitterFree => Sys2Proof.Machine.execTransmitterFree s
  | .unknownKind h kind => Sys2Proof.Machine.execUnknownKind h kind s
  | .write h payload => Sys2Proof.Machine.execWrite h payload s
  | .writeKeyMap h count start data => Sys2Proof.Machine.execWriteKeyMap h count start data s
  | .writeWheelPitch h count start data => Sys2Proof.Machine.execWriteWheelPitch h count start data s
  | .writeFaultConfiguration h count start data => Sys2Proof.Machine.execWriteFaultConfiguration h count start data s
  | .writeStationNumber h value => Sys2Proof.Machine.execWriteStationNumber h value s
  | .writeSilenceWindow h value => Sys2Proof.Machine.execWriteSilenceWindow h value s
  | .writeNoticeSettings h first data => Sys2Proof.Machine.execWriteNoticeSettings h first data s
  | .writeRotorSettings h count start data => Sys2Proof.Machine.execWriteRotorSettings h count start data s
  | .writeOutputSettings h count start data => Sys2Proof.Machine.execWriteOutputSettings h count start data s
  | .read h payload => Sys2Proof.Machine.execRead h payload s
  | .play h arg rest => Sys2Proof.Machine.execPlay h arg rest s
  | .standby h arg rest => Sys2Proof.Machine.execStandby h arg rest s
  | .allKeysUp h arg rest => Sys2Proof.Machine.execAllKeysUp h arg rest s
  | .clearFaults h arg rest => Sys2Proof.Machine.execClearFaults h arg rest s
  | .selectPresetNow h arg manual preset low => Sys2Proof.Machine.execSelectPresetNow h arg manual preset low s
  | .selectPresetGlide h arg manual preset low => Sys2Proof.Machine.execSelectPresetGlide h arg manual preset low s
  | .selectPresetNextPlay h arg manual preset low => Sys2Proof.Machine.execSelectPresetNextPlay h arg manual preset low s
  | .flushEngines h arg rest => Sys2Proof.Machine.execFlushEngines h arg rest s
  | .restoreFactory h arg rest => Sys2Proof.Machine.execRestoreFactory h arg rest s
  | .restoreStep => Sys2Proof.Machine.execRestoreStep s
  | .clearCounters h arg rest => Sys2Proof.Machine.execClearCounters h arg rest s
  | .softReset h arg rest => Sys2Proof.Machine.execSoftReset h arg rest s
  | .keyDown source raw travel => Sys2Proof.Machine.execKeyDown source raw travel s
  | .keyUp source raw travel => Sys2Proof.Machine.execKeyUp source raw travel s
  | .scheduleEntryDue => Sys2Proof.Machine.execScheduleEntryDue s
  | .clickPulseExpiry => Sys2Proof.Machine.execClickPulseExpiry s
  | .loadComplete => Sys2Proof.Machine.execLoadComplete s
  | .writeBackComplete => Sys2Proof.Machine.execWriteBackComplete s
  | .settleDone e => Sys2Proof.Machine.execSettleDone e s
  | .controlError id value => Sys2Proof.Machine.execControlError id value s
  | .drawbarMove m n value => Sys2Proof.Machine.execDrawbarMove m n value s
  | .expressionMove value => Sys2Proof.Machine.execExpressionMove value s
  | .percussionEnable value => Sys2Proof.Machine.execPercussionEnable value s
  | .percussionSwitch which value => Sys2Proof.Machine.execPercussionSwitch which value s
  | .scannerMove which value => Sys2Proof.Machine.execScannerMove which value s
  | .rotorSelect value => Sys2Proof.Machine.execRotorSelect value s
  | .rotorBrake value => Sys2Proof.Machine.execRotorBrake value s
  | .controlRelease value => Sys2Proof.Machine.execControlRelease value s
  | .glideStep m => Sys2Proof.Machine.execGlideStep m s
  | .halving => Sys2Proof.Machine.execHalving s
  | .boundaryStep => Sys2Proof.Machine.execBoundaryStep s
  | .parkingCheck r => Sys2Proof.Machine.execParkingCheck r s
  | .wclkEdge period => Sys2Proof.Machine.execWclkEdge period s
  | .missingEdge => Sys2Proof.Machine.execMissingEdge s
  | .cascadeSample frame => Sys2Proof.Machine.execCascadeSample frame s
  | .episodeStart => Sys2Proof.Machine.execEpisodeStart s
  | .episodeEnd => Sys2Proof.Machine.execEpisodeEnd s
  | .retryExpiry k => Sys2Proof.Machine.execRetryExpiry k s
  | .consoleSilenceExpiry => Sys2Proof.Machine.execConsoleSilenceExpiry s
  | .noticeTimeExpiry => Sys2Proof.Machine.execNoticeTimeExpiry s
  | .noticeWaitingQueued => Sys2Proof.Machine.execNoticeWaitingQueued s
  | .internalOscillatorTick => Sys2Proof.Machine.execInternalOscillatorTick s

end Sys2Proof.Machine
end

