-- ==== Sys2Proof/Machine/Step.lean ====
section
/-!
DEFINITION. One step of the machine: the command at the front of the queue.
-/

namespace Sys2Proof.Machine

/-- The block with no command waiting: LINK_OUT sends one word, and nothing else happens (assumption
log 6). -/
def State.idle (s : State) : State := if s.req.held then s else s.setLnk s.lnk.sendWord

/-- Take the command at the front of the queue and run it on the state with the queue's rest. -/
def step (s : State) : Host.Outcome State Fault Refusal :=
  match s.pending with
  | [] => .next s.idle
  | c :: rest => exec c (s.setPending rest)

/-- The state with the command that a word spells at the front of its queue. -/
def State.withFetchWord (s : State) (nbits w : Nat) : State :=
  match decodeTableWord nbits w with
  | some c => s.setPending (c :: s.pending)
  | none => s

end Sys2Proof.Machine
end

