-- ==== Sys2Proof/Safety.lean ====
section
/-!
DEFINITION. What a state of the part is held to: the laws that the manual states of every state.
-/

namespace Sys2Proof.Machine

/-- The parts of State that a frame statement names: LNK but its Reply Queue, the Reply Queue, the place
held in it for the request in hand, REQ, the tables, the key records, the HOLD flag, the Contact Schedule, the Tick Count, BUS, ENG, REG, PRC, ROT,
OUT but its mute request, the mute request, FLT and the counters (00_scope.md, Blocks). -/
inductive Block
  | lnk | replies | place | req | tab | key | hold | seq | tick | bus | eng | reg | prc | rot | out | mute | flt
  | cnt
  deriving DecidableEq, Repr

/-- Nothing but the named parts differs between two states. -/
structure Frame (touched : List Block) (s t : State) : Prop where
  lnk : Block.lnk ∉ touched → { t.lnk with replies := s.lnk.replies, replyHeld := s.lnk.replyHeld } = s.lnk
  replies : Block.replies ∉ touched → t.lnk.replies = s.lnk.replies
  place : Block.place ∉ touched → t.lnk.replyHeld = s.lnk.replyHeld
  req : Block.req ∉ touched → t.req = s.req
  tab : Block.tab ∉ touched → t.tab = s.tab
  key : Block.key ∉ touched → t.key.records = s.key.records
  hold : Block.hold ∉ touched → t.key.hold = s.key.hold
  seq : Block.seq ∉ touched → t.seq.schedule = s.seq.schedule
  tick : Block.tick ∉ touched → t.seq.tickCount = s.seq.tickCount
  bus : Block.bus ∉ touched → t.bus = s.bus
  eng : Block.eng ∉ touched → t.eng = s.eng
  reg : Block.reg ∉ touched → t.reg = s.reg
  prc : Block.prc ∉ touched → t.prc = s.prc
  rot : Block.rot ∉ touched → t.rot = s.rot
  out : Block.out ∉ touched → { t.out with muteRequest := s.out.muteRequest } = s.out
  mute : Block.mute ∉ touched → t.out.muteRequest = s.out.muteRequest
  flt : Block.flt ∉ touched → t.flt = s.flt
  cnt : Block.cnt ∉ touched → t.cnt = s.cnt
  pending : t.pending = s.pending

/-- Every step of the machine answers a next state. -/
def StepAnswers (s : State) : Prop := ∃ t, step s = .next t

/-! ### What a request finds and leaves -/

/-- The part runs: full reset is not being held (R42). -/
abbrev State.Running (s : State) : Prop := s.req.held = false

/-- The part runs and is not INITIALIZING: requests and control moves are handled (R25, R26). -/
abbrev State.Ready (s : State) : Prop := s.Running ∧ s.req.opState ≠ .initializing

/-- The part runs and is PLAYING: key events reach the Key Unit (R25). -/
abbrev State.Playing (s : State) : Prop := s.Running ∧ s.req.opState = .playing

/-- The Reply Queue has a place for the reply of an addressed request; a broadcast one needs none
(R28). -/
abbrev State.RoomFor (s : State) (h : Head) : Prop := h.sent = .addressed → s.lnk.replies.length < 4

/-- The Reply Queue of t is that of s, then some notices, then the reply of an addressed request, in the
station number of t (R10, R28). -/
def Replied (h : Head) (status : Status) (echo : Nat) (data : List Word) (notices : List (List Word))
    (s t : State) : Prop :=
  t.lnk.replies = s.lnk.replies ++ notices ++
    (match h.sent with
     | .addressed => [t.replyWords h.tag status echo data]
     | .broadcast => [])

/-- The commands one after another. -/
def execAll : List Instr → State → Host.Outcome State Fault Refusal
  | [], s => .next s
  | c :: cs, s =>
    match exec c s with
    | .next t => execAll cs t
    | o => o

/-- The key command that an event word of a KEY frame stands for (R22). -/
def keyCommand (w : Word) : Instr :=
  if w.getLsbD 6 then .keyDown (w.extractLsb' 14 2) (w.extractLsb' 7 7) (w.extractLsb' 0 6)
  else .keyUp (w.extractLsb' 14 2) (w.extractLsb' 7 7) (w.extractLsb' 0 6)

/-- The control command that a move of a CONTROL frame stands for (R22, R118); an id that R118 does not
assign is a CONTROL_ERROR. -/
def controlCommand (w : Word) : Instr :=
  let id := bitsOf w 15 8
  let value := w.extractLsb' 0 8
  if id ≤ 8 then .drawbarMove .upper (Fin.ofNat 9 id) value
  else if 16 ≤ id ∧ id ≤ 24 then .drawbarMove .lower (Fin.ofNat 9 (id - 16)) value
  else if 32 ≤ id ∧ id ≤ 40 then .drawbarMove .pedal (Fin.ofNat 9 (id - 32)) value
  else
    match id with
    | 48 => .expressionMove value
    | 49 => .percussionEnable value
    | 50 => .percussionSwitch .level value
    | 51 => .percussionSwitch .decay value
    | 52 => .percussionSwitch .harmonic value
    | 56 => .scannerMove .mode value
    | 57 => .scannerMove .onUpper value
    | 58 => .scannerMove .onLower value
    | 64 => .rotorSelect value
    | 65 => .rotorBrake value
    | 72 => .controlRelease value
    | _ => .controlError (w.extractLsb' 8 8) value

/-- From s to t the link has left LINKED for SEARCHING (R16). -/
structure LinkLost (s t : State) : Prop where
  quiet : t.lnk.quiet = Timer.stopped
  linked : t.lnk.linked = false
  rate : t.lnk.rate = 0
  window : t.lnk.window = 0
  windowTimer : t.lnk.windowTimer = Timer.start
  lockRun : t.lnk.lockRun = 0
  assembly : t.lnk.assembly = none
  forward : t.lnk.forward = if s.lnk.transmit = .forwarding then s.lnk.forward.take 1 else []
  waitCount : t.lnk.waitCount = s.lnk.waitCount
  transmit : t.lnk.transmit = s.lnk.transmit ∧ t.lnk.toSend = s.lnk.toSend
  drops : t.cnt = { s.cnt with
    forwardDrops := s.cnt.forwardDrops + wordOf (s.lnk.forward.length - t.lnk.forward.length) }
  others : Frame [.lnk, .cnt] s t

/-- From s to t a good marker word of Kind 0 to 14 has opened a frame: the station filter takes the frame or
not, and a frame to be forwarded is admitted with room for the whole of it or refused and counted (R3, R6,
R8). -/
def FrameOpened (header : Word) (s t : State) : Prop :=
  let forMe := headerKind header < 8 ∧ (headerStation header = 31 ∨ headerStation header = s.station)
  let onward := ¬ (headerKind header < 8 ∧ headerStation header = s.station) ∨ headerStation header = 31
  let fits := reservedWords s.lnk.forward + (2 + headerLength header) ≤ 64
  ∃ a, a.words = [header] ∧ a.failed = false ∧ (a.take = true ↔ forMe) ∧
    (a.forwarding = .admitted ↔ onward ∧ fits) ∧ (a.forwarding = .refused ↔ onward ∧ ¬ fits) ∧
    t.lnk = { s.lnk with sinceLock := false, assembly := some a, forward := t.lnk.forward } ∧
    (onward ∧ fits → t.lnk.forward = s.lnk.forward ++ [⟨[header], 2 + headerLength header, false⟩]) ∧
    (¬ (onward ∧ fits) → t.lnk.forward = s.lnk.forward) ∧
    (onward ∧ ¬ fits → t.cnt = { s.cnt with forwardDrops := s.cnt.forwardDrops + 1 }) ∧
    (¬ (onward ∧ ¬ fits) → t.cnt = s.cnt) ∧ Frame [.lnk, .cnt] s t

/-- The head and the payload words of a WRITE, whichever row names it (R22). -/
def writeRequest : Instr → Option (Head × List Word)
  | .write h payload => some (h, payload)
  | .writeKeyMap h count start data => some (h, writePayload 1 count start data)
  | .writeWheelPitch h count start data => some (h, writePayload 4 count start data)
  | .writeFaultConfiguration h count start data => some (h, writePayload 10 count start data)
  | .writeStationNumber h value => some (h, writePayload 11 1 0 [value])
  | .writeSilenceWindow h value => some (h, writePayload 11 1 1 [value])
  | .writeNoticeSettings h first data =>
    some (h, writePayload 11 (BitVec.ofNat 8 data.length) (noticeIndex first) data)
  | .writeRotorSettings h count start data => some (h, writePayload 13 count start data)
  | .writeOutputSettings h count start data => some (h, writePayload 14 count start data)
  | _ => none

/-- The head and the payload words of a COMMAND, whichever row names it (R22). -/
def commandRequest : Instr → Option (Head × List Word)
  | .play h arg rest => some (h, commandPayload 1 arg rest)
  | .standby h arg rest => some (h, commandPayload 2 arg rest)
  | .allKeysUp h arg rest => some (h, commandPayload 3 arg rest)
  | .clearFaults h arg rest => some (h, commandPayload 4 arg rest)
  | .selectPresetNow h arg m p low => some (h, commandPayload 5 arg [presetWord m p 0 low])
  | .selectPresetGlide h arg m p low => some (h, commandPayload 5 arg [presetWord m p 1 low])
  | .selectPresetNextPlay h arg m p low => some (h, commandPayload 5 arg [presetWord m p 2 low])
  | .flushEngines h arg rest => some (h, commandPayload 6 arg rest)
  | .restoreFactory h arg rest => some (h, commandPayload 7 arg rest)
  | .clearCounters h arg rest => some (h, commandPayload 8 arg rest)
  | .softReset h arg rest => some (h, commandPayload 9 arg rest)
  | _ => none

/-- The head and the payload words of a READ, a WRITE or a COMMAND (R22). -/
def assignedRequest (c : Instr) : Option (Head × List Word) :=
  match c with
  | .read h payload => some (h, payload)
  | _ => (writeRequest c).or (commandRequest c)

/-- A request is refused: it is answered with a status and no data, its echo is the high byte of its
first payload word, and nothing else changes (R28, R29). -/
def RequestRefused (c : Instr) (h : Head) (payload : List Word) (status : Status) (s : State) : Prop :=
  ∃ t, exec c s = .next t ∧ Replied h status (requestHigh payload) [] [] s t ∧
    Frame [.replies, .place] s t

/-- The words of entry j of a WRITE's data (R22). -/
def dataWords (table : TableId) (payload : List Word) (j : Nat) : List Word :=
  ((payload.drop 2).drop (j * tableWidth table)).take (tableWidth table)

/-- A WRITE of a table passes the checks of R31. -/
structure WritePasses (table : TableId) (payload : List Word) (s : State) : Prop where
  id : tableOfId (requestHigh payload) = some table
  count : requestLow payload ≠ 0
  length : payload.length = 2 + requestLow payload * tableWidth table
  writable : tableWritable table = true
  stopped : table = .wheelPitch → s.req.opState ≠ .playing
  bound : (payload.getD 1 0).toNat + requestLow payload ≤ tableEntries table
  values : ∀ j < requestLow payload,
    entryOk table ((payload.getD 1 0).toNat + j) (dataWords table payload j) = true
  unused : table = .keyMap → ∀ j < requestLow payload, ∀ k,
    keyOfWord (wordAt s.tab.keyMap ((payload.getD 1 0).toNat + j)) = some k → s.keyState k = .up
  free : ∀ c, s.req.cursor = some c → c.table ≠ table

/-- Whether a WRITE writes entry i. -/
def writesEntry (payload : List Word) (i : Nat) : Prop :=
  (payload.getD 1 0).toNat ≤ i ∧ i < (payload.getD 1 0).toNat + requestLow payload

/-- The table has no behaviour of its own: a written entry is stored and nothing else happens. -/
def TableId.plain : TableId → Bool
  | .keyMap | .contactProfile | .wheelAssignment | .wheelPitch | .wheelVoicing | .busLoadCurve
  | .drawbarLaw | .presets | .expressionCurve => true
  | _ => false

/-- In t the entries that a WRITE of a table names hold its data, and every other entry of every
writable table reads as in s (R32). -/
def EntriesStored (table : TableId) (payload : List Word) (s t : State) : Prop :=
  (∀ j < requestLow payload,
      t.entryWords table ((payload.getD 1 0).toNat + j) = dataWords table payload j) ∧
    ∀ u i, tableWritable u = true → u ≠ table ∨ ¬ writesEntry payload i →
      t.entryWords u i = s.entryWords u i

/-! ### Notices -/

/-- A place of the Reply Queue is free for a NOTICE while a request is in hand: one that the request
does not hold for its reply (R190; assumption log 12). -/
def State.NoticeRoom (s : State) (sent : Addressing) : Prop :=
  s.lnk.replies.length + (if sent = .addressed ∨ s.lnk.replyHeld = true then 1 else 0) < 4

/-- With p changes pending, the notice timer and the waiting mark as given, t is the state in which a
NOTICE has been queued, waits or has not fallen due (R189, R190). -/
def NoticeChecked (p : Nat) (timer : Timer) (waiting : Bool) (room : Prop) (notices : List (List Word))
    (t : State) : Prop :=
  let due := t.noticeEnable = true ∧ (t.noticeCount ≤ p ∨
    (1 ≤ p ∧ t.noticeTime ≠ 0 ∧ 64 * t.noticeTime ≤ timer.count))
  (due → waiting = false → room → notices = [frameWords t.station 9 0 t.noticeWords] ∧
    t.flt.pendingChanges = 0 ∧ t.flt.noticeTimer = Timer.start ∧ t.flt.waiting = false) ∧
  (due → waiting = false → ¬ room → notices = [] ∧ t.flt.pendingChanges = p ∧
    t.flt.noticeTimer = timer ∧ t.flt.waiting = true) ∧
  (¬ due ∨ waiting = true → notices = [] ∧ t.flt.pendingChanges = p ∧ t.flt.noticeTimer = timer ∧
    t.flt.waiting = waiting)

/-- From s to t one event has been counted as a change if it changed the notice state (R189). -/
def ChangeCounted (room : Prop) (notices : List (List Word)) (s t : State) : Prop :=
  (t.noticeEnable = true ∧ t.noticeState ≠ s.noticeState →
    NoticeChecked (min 255 (s.flt.pendingChanges + 1)) s.flt.noticeTimer s.flt.waiting room notices t) ∧
  (t.noticeEnable = false ∨ t.noticeState = s.noticeState →
    notices = [] ∧ t.flt.pendingChanges = s.flt.pendingChanges ∧
      t.flt.noticeTimer = s.flt.noticeTimer ∧ t.flt.waiting = s.flt.waiting)

/-! ### Fault records -/

/-- A fault mode in which a record can hold an episode (R180). -/
def FaultMode.holds (m : FaultMode) : Bool := m == .latched || m == .autoRetry

/-- A record after an occurrence, under its mode and action in force: the flag is set, but not in DISABLED;
in LATCHED and AUTO_RETRY the action is held, if none is held yet, and the retry timer stops (R181). -/
def FaultRecord.occurred (mode : FaultMode) (action : Action) (r : FaultRecord) : FaultRecord :=
  match mode with
  | .disabled => r
  | .reportOnly => { r with flag := true }
  | .latched | .autoRetry =>
    { r with flag := true, held := some (r.held.getD action), retry := Timer.stopped }

/-- A record whose condition is reported absent: under AUTO_RETRY with an action held its retry timer
starts (R181, R183). -/
def FaultRecord.gone (mode : FaultMode) (r : FaultRecord) : FaultRecord :=
  if r.present then
    { r with
      present := false
      retry := if mode = .autoRetry ∧ r.held ≠ none then Timer.start else r.retry }
  else r

/-- The state with a fault condition reported absent (R181). -/
def State.withoutCondition (s : State) (k : FaultKind) : State :=
  s.setRecord k ((s.record k).gone (s.faultMode k))

/-- The state with a fault condition marked present and nothing else (R180). -/
def State.withCondition (s : State) (k : FaultKind) : State :=
  s.setRecord k { s.record k with present := true }

/-- Every key of a manual is UP with every contact open and no entry in the schedule (R55). -/
def State.ManualReleased (s : State) (m : Manual) : Prop :=
  ∀ k, keyManual k = m → s.keyState k = .up ∧ (∀ c ∈ contactsOf k, s.contact k c = .opened) ∧
    s.hasEntry k = false

/-- The open contacts of a key, or the closed ones, in contact order (R50, R51). -/
def State.keyContacts (s : State) (k : KeyId) (closed : Bool) : List ContactId :=
  (contactsOf k).filter (fun c => (s.contact k c != .opened) == closed)

/-- The click pulses once some more have been started, in this order: the newest 32 are held (R88). -/
def clicksWith (old new : List ClickPulse) : List ClickPulse :=
  if new = [] then old else (old ++ new).drop ((old ++ new).length - 32)

/-- The closed contacts of some manuals in the order in which a release opens them: manual by manual, keys in
index order, contacts in contact order (R55). -/
def State.openings (s : State) (ms : List Manual) : List (KeyId × ContactId) :=
  ms.flatMap (fun m => (manualKeys m).flatMap (fun k => (s.keyContacts k true).map (fun c => (k, c))))

/-- The click pulses that opening some contacts starts: a negative one for each contact that has bound a
wheel, on the manual of its key (R70, R88). -/
def State.openingClicks (s : State) (l : List (KeyId × ContactId)) : List ClickPulse :=
  (l.filter (fun p => match s.contact p.1 p.2 with
    | .closed (some _) => true
    | _ => false)).map (fun p => ⟨keyManual p.1, s.seq.tickCount, false⟩)

/-- How many of some contacts count on a bus for a wheel (R76). -/
def State.openingCount (s : State) (l : List (KeyId × ContactId)) (row : BusRow) (w : Wheel) : Nat :=
  (l.filter (fun p => contactRow (keyManual p.1) p.2 == row && s.contact p.1 p.2 == .closed (some w))).length

/-- From s to t some manuals have been released: their keys are UP with no entry, and each contact that was
closed has taken its count from its bus and started its click, in the order of R55. -/
structure Released (ms : List Manual) (s t : State) : Prop where
  keys : ∀ m ∈ ms, t.ManualReleased m
  counts : ∀ row w, t.bus.countOf row w = s.bus.countOf row w - s.openingCount (s.openings ms) row w
  clicks : t.bus.clicks = clicksWith s.bus.clicks (s.openingClicks (s.openings ms))

/-- The record of a kind would open an episode with action RELEASE at an occurrence (R181, R182). -/
def State.WouldRelease (s : State) (k : FaultKind) : Prop :=
  (s.faultMode k).holds = true ∧ (s.record k).held = none ∧ s.faultAction k = .release

/-- The HOLD flag, the mute request, FAULT and WARN are what the records, the limit flags and the
operating state call for (R49, R170, R182, R186). -/
structure State.Signalled (s : State) : Prop where
  hold : s.key.hold = s.holdWanted
  mute : s.out.muteRequest = s.muteWanted
  fault : s.flt.fault = s.faultWanted
  warn : s.flt.warn = s.warnWanted

/-- From s to t there has been an occurrence of a fault kind (R181, R182): its record follows its mode, a
RELEASE that takes force releases every key, which may end a shortage, no other record changes, the signals
follow, and a change of the notice state is counted (R189). -/
structure Occurred (k : FaultKind) (s t : State) : Prop where
  records : ∀ j, t.record j =
    let q := if j = k then (s.record j).occurred (s.faultMode j) (s.faultAction j) else s.record j
    if j = .engineShortage ∧ s.eng.starved ≠ [] ∧ t.eng.starved = [] then q.gone (s.faultMode j) else q
  released : s.WouldRelease k → Released allManuals s t ∧
    Frame [.replies, .hold, .mute, .key, .seq, .bus, .eng, .prc, .flt] s t
  kept : ¬ s.WouldRelease k → Frame [.replies, .hold, .mute, .flt] s t
  silence : t.flt.silence = s.flt.silence
  signals : s.Signalled → t.Signalled
  notice : ∃ notices, t.lnk.replies = s.lnk.replies ++ notices ∧
    ChangeCounted (s.NoticeRoom .broadcast) notices s t

/-- From s to t a fault condition has been reported present: nothing new if it was present, only remembered
in INITIALIZING, and an occurrence otherwise (R181, R191). -/
def ConditionReported (k : FaultKind) (s t : State) : Prop :=
  ((s.record k).present = true → t = s) ∧
  ((s.record k).present = false → s.req.opState = .initializing → t = s.withCondition k) ∧
  ((s.record k).present = false → s.req.opState ≠ .initializing → Occurred k (s.withCondition k) t)

/-- From s to t a fault event has been raised: discarded in INITIALIZING, and an occurrence otherwise
(R181, R191). -/
def EventReported (k : FaultKind) (s t : State) : Prop :=
  (s.req.opState = .initializing → t = s) ∧ (s.req.opState ≠ .initializing → Occurred k s t)

/-- From s to t ENGINE_SHORTAGE has gone absent if the Starved Wheel List has become empty, and no other
part of the Fault Unit has changed (R102, R110). -/
def ShortageEases (s t : State) : Prop :=
  t.flt = (if s.eng.starved ≠ [] ∧ t.eng.starved = [] then s.withoutCondition .engineShortage else s).flt

/-! ### Keys -/

/-- No fault that a key event or an expiry can raise is configured to release the keys (R182). -/
abbrev State.KeysNotReleased (s : State) : Prop :=
  s.faultAction .engineShortage ≠ .release ∧ s.faultAction .scheduleFull ≠ .release ∧
    s.faultAction .strayOverflow ≠ .release

/-- The entries of keys other than k, in schedule order. -/
def State.entriesOfOthers (s : State) (k : KeyId) : List ScheduleEntry :=
  s.seq.schedule.filter (fun x => x.key != k)

/-- The offset of a transition of a contact of a key under a travel (R62). -/
def State.offsetOf (s : State) (k : KeyId) (travel : BitVec 6) (kind : Transition) (c : ContactId) : Nat :=
  let point := (wordAt s.tab.contactProfile (profileIndex (keyManual k) c)).toNat
  match kind with
  | .close => 8 * travel.toNat * point / 256
  | .open_ => 8 * travel.toNat * (255 - point) / 256

/-- The places that a key event finds in the schedule, once it has removed the key's entries of the other
direction (R50, R51, R63). -/
def State.placesFor (s : State) (k : KeyId) (kind : Transition) : Nat :=
  256 - (s.seq.schedule.filter (fun x => x.key != k || x.kind == kind)).length

/-- The contacts whose transitions a key event puts into the schedule: the first, in contact order, of those
with an offset, as many as find a place (R65). -/
def State.scheduled (s : State) (k : KeyId) (travel : BitVec 6) (kind : Transition) : List ContactId :=
  ((s.keyContacts k (kind == .open_)).filter (fun c => s.offsetOf k travel kind c != 0)).take
    (s.placesFor k kind)

/-- The contacts whose transitions collapse: those with an offset that find no place (R65, R66). -/
def State.collapsed (s : State) (k : KeyId) (travel : BitVec 6) (kind : Transition) : List ContactId :=
  ((s.keyContacts k (kind == .open_)).filter (fun c => s.offsetOf k travel kind c != 0)).drop
    (s.placesFor k kind)

/-- The entry that a key event places for a transition of a contact (R62, R63). -/
def State.entryFor (s : State) (k : KeyId) (travel : BitVec 6) (kind : Transition) (c : ContactId) :
    ScheduleEntry :=
  ⟨s.seq.tickCount + wordOf (s.offsetOf k travel kind c), k, c, kind⟩

/-- A schedule with a new entry: behind every entry due no later, in front of every entry due later, by
distance ahead of the Tick Count (R63). -/
def withEntry (now : Word) (l : List ScheduleEntry) (x : ScheduleEntry) : List ScheduleEntry :=
  let noLater := fun y : ScheduleEntry => decide ((y.due - now).toNat ≤ (x.due - now).toNat)
  l.takeWhile noLater ++ x :: l.dropWhile noLater

/-- The schedule after a key event: the key's entries of the other direction have left and the placed ones
have come in, one by one in contact order (R50, R51, R63, R65). -/
def State.scheduleAfter (s : State) (k : KeyId) (travel : BitVec 6) (kind : Transition) : List ScheduleEntry :=
  ((s.scheduled k travel kind).map (s.entryFor k travel kind)).foldl (withEntry s.seq.tickCount)
    (s.seq.schedule.filter (fun x => x.key != k || x.kind == kind))

/-- The contacts whose transitions a key event applies at once, in contact order (R65). -/
def State.atOnce (s : State) (k : KeyId) (travel : BitVec 6) (kind : Transition) : List ContactId :=
  (s.keyContacts k (kind == .open_)).filter (fun c => !(s.scheduled k travel kind).contains c)

/-- The wheel that a CLOSE binds: the contact's own entry of the Wheel Assignment; for CP none while
percussion is disabled, else the B4 or the B5 entry (R68, R69, R81). -/
def State.assignedWheel (s : State) (k : KeyId) (c : ContactId) : Option Wheel :=
  if h : c.val < 9 then wheelOfWord (wordAt s.tab.wheelAssignment (assignmentIndex k ⟨c.val, h⟩))
  else if s.prc.enable then
    wheelOfWord (wordAt s.tab.wheelAssignment (assignmentIndex k (if s.prc.third then 4 else 3)))
  else none

/-- The envelope after a phrase start of UPPER (R137). -/
def Percussion.begun (p : Percussion) : Percussion :=
  if p.envelope = .armed then { p with envelope := .sounding, level := 0, halving := Timer.stopped } else p

/-- The envelope after PERCUSSION CONTACT CLOSED (R138). -/
def Percussion.struck (p : Percussion) : Percussion :=
  if p.envelope = .sounding ∧ p.halving.running = false then
    { p with level := if p.soft then 2048 else 4095, halving := Timer.start }
  else p

/-- The envelope after MANUAL FULLY UP of UPPER (R140). -/
def Percussion.rearmed (p : Percussion) : Percussion :=
  if p.envelope = .off then p else { p with envelope := .armed, level := 0, halving := Timer.stopped }

/-! ### The Engine Cache -/

/-- From s, whose wheel w has just become demanded, to t the Engine Cache has handled the demand up: it
revives the wheel's IDLE engine, waits for a LOADING one or for the write-back before it, or allocates the
head of the Free List, else the tail of the LRU List, else puts the wheel on the Starved Wheel List and
reports the first one as ENGINE_SHORTAGE; each but the waiting has its counter (R79, R100, R101, R110,
R115). -/
structure DemandRose (w : Wheel) (s t : State) : Prop where
  revived : ∀ e, (s.eng.store[w]).bound = some e → (s.eng.engines[e]).state = .idle →
    t = (s.setEng { s.eng with
        engines := s.eng.engines.set e { s.eng.engines[e] with state := .active, settle := 0 }
        lru := s.eng.lru.filter (fun x => x != e) }).setCnt { s.cnt with hits := s.cnt.hits + 1 }
  waiting : ∀ e, (s.eng.store[w]).bound = some e → (s.eng.engines[e]).state ≠ .idle → t = s
  free : ∀ e rest, (s.eng.store[w]).bound = none → s.eng.free = e :: rest →
    t = (s.setEng { s.eng with
        free := rest
        engines := s.eng.engines.set e
          { s.eng.engines[e] with state := .loading, wheel := some w, settle := 0, next := none }
        store := s.eng.store.set w { s.eng.store[w] with bound := some e }
        queue := s.eng.queue ++ [⟨e, .load, w⟩]
        storeReady := s.eng.storeReady && !s.eng.queue.isEmpty }).setCnt
      { s.cnt with cleanMisses := s.cnt.cleanMisses + 1 }
  evictedClean : ∀ (e : EngineId) rest v, (s.eng.store[w]).bound = none → s.eng.free = [] → s.eng.lru = rest ++ [e] →
    (s.eng.engines[e]).wheel = some v → (s.eng.engines[e]).dirty = false →
    t = (s.setEng { s.eng with
        lru := rest
        engines := s.eng.engines.set e
          { s.eng.engines[e] with state := .loading, wheel := some w, settle := 0, next := none }
        store := (s.eng.store.set v { s.eng.store[v] with bound := none }).set w
          { s.eng.store[w] with bound := some e }
        queue := s.eng.queue ++ [⟨e, .load, w⟩]
        storeReady := s.eng.storeReady && !s.eng.queue.isEmpty }).setCnt
      { s.cnt with cleanMisses := s.cnt.cleanMisses + 1 }
  evictedDirty : ∀ (e : EngineId) rest v, (s.eng.store[w]).bound = none → s.eng.free = [] → s.eng.lru = rest ++ [e] →
    (s.eng.engines[e]).wheel = some v → (s.eng.engines[e]).dirty = true →
    t = (s.setEng { s.eng with
        lru := rest
        engines := s.eng.engines.set e
          { s.eng.engines[e] with state := .writingBack, settle := 0, next := some w }
        store := (s.eng.store.set v { s.eng.store[v] with bound := none }).set w
          { s.eng.store[w] with bound := some e }
        queue := s.eng.queue ++ [⟨e, .writeBack, v⟩]
        storeReady := s.eng.storeReady && !s.eng.queue.isEmpty }).setCnt
      { s.cnt with dirtyMisses := s.cnt.dirtyMisses + 1 }
  starves : (s.eng.store[w]).bound = none → s.eng.free = [] → s.eng.lru = [] →
    let u := (s.setEng { s.eng with starved := s.eng.starved ++ [w] }).setCnt
      { s.cnt with shortages := s.cnt.shortages + 1 }
    (s.eng.starved ≠ [] → t = u) ∧ (s.eng.starved = [] → ConditionReported .engineShortage u t)

/-- The cache with a new record of engine e, with w unbound and the head h of the Starved Wheel List bound
to e in its place, and with a store request queued (R99). -/
def EngineCache.handedOver (c : EngineCache) (e : EngineId) (w h : Wheel) (r : Engine) (q : StoreRequest) :
    EngineCache :=
  { c with
    engines := c.engines.set e r
    starved := c.starved.tail
    store := (c.store.set w { c.store[w] with bound := none }).set h { c.store[h] with bound := some e }
    queue := c.queue ++ [q]
    storeReady := c.storeReady && !c.queue.isEmpty }

/-- From c, whose wheel w has just lost its demand, to d the Engine Cache has handled the demand down: an
ACTIVE engine becomes IDLE at the head of the LRU List, or is handed over to the first starved wheel; a
starved wheel leaves the Starved Wheel List (R79, R99, R102). -/
structure DemandFell (w : Wheel) (c d : EngineCache) : Prop where
  starved : (c.store[w]).bound = none → d = { c with starved := c.starved.filter (fun v => v != w) }
  waiting : ∀ e, (c.store[w]).bound = some e → (c.engines[e]).state ≠ .active → d = c
  idle : ∀ e, (c.store[w]).bound = some e → (c.engines[e]).state = .active → c.starved = [] →
    d = { c with
      engines := c.engines.set e { c.engines[e] with state := .idle, settle := 0, ticked := true }
      lru := e :: c.lru }
  handedClean : ∀ e h more, (c.store[w]).bound = some e → (c.engines[e]).state = .active →
    c.starved = h :: more → (c.engines[e]).dirty = false →
    d = c.handedOver e w h
      { c.engines[e] with state := .loading, wheel := some h, settle := 0, next := none } ⟨e, .load, h⟩
  handedDirty : ∀ e h more, (c.store[w]).bound = some e → (c.engines[e]).state = .active →
    c.starved = h :: more → (c.engines[e]).dirty = true →
    d = c.handedOver e w h
      { c.engines[e] with state := .writingBack, settle := 0, next := some h } ⟨e, .writeBack, w⟩

/-! ### The tick -/

/-- From s to u every process of the present tick has run: the timed rows one after another in the model's
order (assumption log 3), each of which does nothing where its process has had its tick or is not due
(assumption log 5). The timers of INITIALIZING and the link and the restore cursor; as many due entries as
the schedule holds, the store port and every engine's settling; as many click pulses as there are, the
glides, the halving timer, both rotors and the Fault Unit's timers; last the bad cascade sample of a tick
without one (R26, R13, R16, R40, R67, R98, R107, R89, R125, R139, R159, R187, R183, R189, R190, R168). -/
def ProcessesRun (s u : State) : Prop :=
  ∃ a b c : State,
    execAll [.initializationDone, .quietTimerExpiry, .searchWindowEnd, .restoreStep] s = .next a ∧
    execAll (List.replicate a.seq.schedule.length .scheduleEntryDue ++ [.loadComplete, .writeBackComplete]
      ++ (List.finRange 64).map Instr.settleDone) a = .next b ∧
    execAll (List.replicate b.bus.clicks.length .clickPulseExpiry
      ++ [.glideStep .upper, .glideStep .lower, .glideStep .pedal, .halving, .boundaryStep,
        .consoleSilenceExpiry]
      ++ allKinds.map Instr.retryExpiry ++ [.noticeTimeExpiry, .noticeWaitingQueued]) b = .next c ∧
    (s.out.cascadeJudged = true → u = c) ∧
    (s.out.cascadeJudged = false → exec (.cascadeSample .missing) c = .next u)

/-- From u to t a new tick begins: the Tick Count advances, the wrap count with its wrap (R60, R95), the
scanner setting comes into force (R148), the output stage notes the mute request (R171) and drops the
cascade sample (R168), every timer's tick and every rotor's, engine's and the restore's is again to be taken,
a store request may complete again (R98), and nothing else changes. -/
structure TickBegins (u t : State) : Prop where
  lnk : t.lnk = { u.lnk with
    windowTimer := { u.lnk.windowTimer with ticked := false }, quiet := { u.lnk.quiet with ticked := false } }
  req : t.req = { u.req with
    initTimer := { u.req.initTimer with ticked := false }
    cursor := u.req.cursor.map (fun c => ⟨c.table, c.index, false⟩) }
  seq : t.seq = ⟨u.seq.tickCount + 1, u.seq.schedule⟩
  engines : ∀ e : EngineId, t.eng.engines[e] = { u.eng.engines[e] with ticked := false }
  eng : t.eng = { u.eng with
    engines := t.eng.engines
    wrap := if u.seq.tickCount = 65535 then u.eng.wrap + 1 else u.eng.wrap
    storeReady := true }
  glide : ∀ m : Manual, t.reg.glide[m.toFin] = { u.reg.glide[m.toFin] with ticked := false }
  reg : t.reg = { u.reg with glide := t.reg.glide }
  prc : t.prc = { u.prc with
    halving := { u.prc.halving with ticked := false }, inForce := u.prc.setting }
  rot : t.rot = { u.rot with
    horn := { u.rot.horn with ticked := false }, drum := { u.rot.drum with ticked := false } }
  out : t.out = { u.out with
    cascadeIn := 0, cascadeJudged := false, muteBefore := u.out.muteRequest, stepTaken := false
    unlimited := false }
  records : ∀ k, t.record k = { u.record k with retry := { (u.record k).retry with ticked := false } }
  flt : t.flt = { u.flt with
    records := t.flt.records
    silence := { u.flt.silence with ticked := false }
    noticeTimer := { u.flt.noticeTimer with ticked := false } }
  others : Frame [.lnk, .req, .tick, .eng, .reg, .prc, .rot, .out, .flt] u t

/-! ### The sound of a tick -/

/-- What the shapes of the Wheel Voicing are: shape 0 is a pure sine, to 1/2^64, of some level above 0, and
every shape adds to it, harmonic by harmonic, at least what the shapes below it add, and more of some (R87;
assumption log 8 and log 10). -/
structure WheelVoices.ShapesSound (v : WheelVoices) : Prop where
  sine : ∀ phase : BitVec 24,
    |((Machine.sine phase : Rat) : ℝ) - Real.sin (2 * Real.pi * (phase.toNat / 16777216))| ≤ 1 / 2 ^ 64
  pure : 0 < v.level ∧ ∀ phase, v.waveform 0 phase = v.level * Machine.sine phase
  harmonics : ∀ (shape : Fin 16) (phase : BitVec 24), v.waveform shape phase = v.level * Machine.sine phase
    + ((List.range v.count).map (fun n =>
        v.amount shape n * Machine.sine (BitVec.ofNat 24 ((n + 2) * phase.toNat) + v.offset n))).sum
  more : ∀ a b : Fin 16, a < b →
    (∀ n, v.amount a n ≤ v.amount b n) ∧ ∃ n, n < v.count ∧ v.amount a n < v.amount b n

/-- How far a tone state is from rest, as the undriven circuits take it: a quadratic form of its two values,
taken as signed numbers (R107; assumption log 8). -/
def UndrivenCircuit.energy (c : UndrivenCircuit) (t : ToneState) : Int :=
  c.p * t.first.toInt ^ 2 + c.q * t.first.toInt * t.second.toInt + c.r * t.second.toInt ^ 2

/-- What an undriven pickup circuit does while its engine settles: the tone state falls toward rest at every
tick until it is at rest, and stays there; after n of the up to 256 ticks it runs, what is left is at most
1 - n/257 of what it was, 1/257 at the end; and its output at the next tick is no louder than what is left, so
that it falls to silence too (R107, R108; assumption log 8). -/
structure UndrivenCircuit.Settles (c : UndrivenCircuit) : Prop where
  rest : c.energy ToneState.rest = 0 ∧ ∀ t, t ≠ ToneState.rest → 0 < c.energy t
  falls : ∀ w t x, (t ≠ ToneState.rest → c.energy (c.step w t x).1 < c.energy t) ∧
    (t = ToneState.rest → (c.step w t x).1 = ToneState.rest)
  nearly : ∀ w t (xs : List Sample), xs.length ≤ 256 →
    257 ^ 2 * c.energy (xs.foldl (fun t x => (c.step w t x).1) t)
      ≤ (257 - xs.length : Int) ^ 2 * c.energy t
  silent : ∀ w t (xs : List Sample) (x : Sample), xs.length ≤ 256 →
    257 ^ 2 * (c.step w (xs.foldl (fun t x => (c.step w t x).1) t) x).2 ^ 2
      ≤ (257 - xs.length : Rat) ^ 2 * (c.loudness * c.energy t)

/-- The waveform of wheel w at this tick, from the shape in force and the phase of the tick (R87, R95). -/
def State.waveformOf (s : State) (w : Wheel) : Sample :=
  Config.wheelVoices.waveform (Fin.ofNat 16 (bitsOf s.tab.wheelVoicing[w] 11 8))
    (BitVec.ofNat 24 ((s.eng.wrap.toNat * 65536 + s.seq.tickCount.toNat) * (s.tab.wheelPitch[w]).toNat))

/-- What the ACTIVE engine e renders of wheel w: its new tone state and the wheel signal, the waveform through
the wheel's pickup circuit with the tone state as its state (R108). -/
def State.wheelWave (s : State) (e : EngineId) (w : Wheel) : ToneState × Sample :=
  Config.pickup w (s.eng.engines[e]).tone (s.waveformOf w)

/-- The same of an IDLE engine, whose pickup circuit is undriven: its new tone state and the settling output
(R107, R108). -/
def State.settlingWave (s : State) (e : EngineId) (w : Wheel) : ToneState × Sample :=
  Config.undrivenPickup.step w (s.eng.engines[e]).tone (s.waveformOf w)

/-- The level of a wheel (R87). -/
def State.voicingLevel (s : State) (w : Wheel) : Rat := (bitsOf s.tab.wheelVoicing[w] 7 0 : Rat) / 256

/-- What engine e adds to the leakage bed before the leakage level (R109). -/
def State.leakOf (s : State) (e : EngineId) : Rat :=
  match (s.eng.engines[e]).state, (s.eng.engines[e]).wheel with
  | .active, some w => (s.wheelWave e w).2 * s.voicingLevel w
  | .idle, some w => if (s.eng.engines[e]).settle = 256 then 0 else (s.settlingWave e w).2 * s.voicingLevel w
  | _, _ => 0

/-- What the engines and the clicks sound at a tick: a wheel's signal is what its ACTIVE engine renders and
silence without one (R108), the leakage bed sums what ACTIVE and IDLE engines give (R109), and each click
pulse adds its shape by age, with its sign, at the click level of its manual (R89, R90). -/
structure State.EnginesSound (s : State) : Prop where
  signal : ∀ (e : EngineId) (w : Wheel), (s.eng.engines[e]).state = .active →
    (s.eng.engines[e]).wheel = some w →
    (∀ e' : EngineId, (s.eng.engines[e']).state = .active → (s.eng.engines[e']).wheel = some w → e' = e) →
    s.renderEngines.signals[w] = (s.wheelWave e w).2
  silent : ∀ w : Wheel,
    (∀ e : EngineId, (s.eng.engines[e]).state = .active → (s.eng.engines[e]).wheel ≠ some w) →
    s.renderEngines.signals[w] = 0
  tone : ∀ (e : EngineId) (w : Wheel), (s.eng.engines[e]).wheel = some w →
    ((s.eng.engines[e]).state = .active →
      (s.renderEngines.cache.engines[e]).tone = (s.wheelWave e w).1) ∧
    ((s.eng.engines[e]).state = .idle → (s.eng.engines[e]).settle ≠ 256 →
      (s.renderEngines.cache.engines[e]).tone = (s.settlingWave e w).1)
  leakage : s.leakageBed s.renderEngines.leak
    = ((List.finRange 64).map s.leakOf).sum * ((wordAt s.tab.playSettings 3).toNat / 1024)
  clicks : ∀ m : Manual, s.clickSum m = ((s.bus.clicks.filter (fun p => p.manual == m)).map (fun p =>
    let shape : Int := [64, 192, 256, 224, 160, 96, 48, 16, -16, -48, -64, -48, -32, -16, -8, 0].getD
      (s.seq.tickCount - p.start).toNat 0
    (shape : Rat) / 256 * (if p.positive then 1 else -1) * (Config.manualFullScale / 16)
      * ((wordAt s.tab.playSettings m.toFin.val).toNat / 15))).sum

/-- The sample of a line that lies d sixteenths of a sample back (R147, R163). -/
def heardBack (line : List Sample) (d : Nat) : Rat :=
  let age := d / 16
  let f : Rat := ((d - 16 * age : Nat) : Rat) / 16
  if d % 16 = 0 then line.getD age 0 else (1 - f) * line.getD age 0 + f * line.getD (age + 1) 0

/-- The scanned output of a line whose newest sample is the manual's sum, with the manual's switch (R147). -/
def State.scannedOutput (s : State) (line : List Sample) (on : Bool) : Rat :=
  let mode := s.prc.inForce.mode.val
  let phase := s.prc.phase.toNat
  let sweep := if phase ≤ 32768 then phase else 65536 - phase
  let depth := (wordAt s.tab.playSettings (8 + (mode - 1) % 3)).toNat
  let delayed := heardBack line (depth * sweep / 32768)
  if on = false ∨ mode = 0 then line.getD 0 0
  else if mode ≤ 3 then delayed
  else line.getD 0 0 / 2 + delayed / 2

/-- What busses, manuals and the dry signal are at a tick: bus signals (R84, R85), manual sums with the
Drawbar Law, the B9 borrow and the compensation gain (R121, R131, R144, R145), the scanner (R147), and the dry
signal with expression and the leakage bed (R130, R132); DRY, UPPER, LOWER and PEDAL are the sources 4 to 7
(R169). -/
structure State.ManualsSound (s : State) : Prop where
  bus : ∀ row : BusRow, s.busSignal s.renderEngines.signals row
    = ((List.finRange 96).map (fun w : Wheel => if s.bus.countOf row w = 0 then 0 else
        ((wordAt s.tab.busLoadCurve (min 16 (s.bus.countOf row w) - 1)).toNat : Rat) / 256
          * s.voicingLevel w * s.renderEngines.signals[w])).sum
  sum : ∀ m : Manual, s.unscannedSum s.renderEngines.signals m
    = ((List.finRange 9).map (fun n : Fin 9 =>
        if m = .upper ∧ s.prc.enable = true ∧ (wordAt s.tab.playSettings 12).toNat = 1 ∧ n = 8 then 0
        else ((wordAt s.tab.drawbarLaw ((s.reg.manualBars m)[n]).level).toNat : Rat) / 256
          * s.busSignal s.renderEngines.signals (busRow m n))).sum
      * (if m = .upper ∧ s.prc.enable = true ∧ s.prc.soft = false then
          ((wordAt s.tab.playSettings 6).toNat : Rat) / 256 else 1)
      + s.clickSum m
  upper : s.formAudio.2.upper = s.scannedOutput
    (s.unscannedSum s.renderEngines.signals .upper :: s.prc.upperLine.toList.dropLast) s.prc.inForce.onUpper
  lower : s.formAudio.2.lower = s.scannedOutput
    (s.unscannedSum s.renderEngines.signals .lower :: s.prc.lowerLine.toList.dropLast) s.prc.inForce.onLower
  pedal : s.formAudio.2.pedal = s.unscannedSum s.renderEngines.signals .pedal
  dry : s.formAudio.2.dry = (s.formAudio.2.upper + s.formAudio.2.lower + s.formAudio.2.pedal
      + s.percussionSignal s.renderEngines.signals)
        * ((wordAt s.tab.expressionCurve s.reg.expression.toNat).toNat / 256)
      + s.leakageBed s.renderEngines.leak
  sources : ∀ a : Signals, s.sourceSample a 4 = a.dry ∧ s.sourceSample a 5 = a.upper ∧
    s.sourceSample a 6 = a.lower ∧ s.sourceSample a 7 = a.pedal

/-- The percussion signal: the UPPER BP bus signal times the envelope gain, which falls in a straight line
between halvings and is 0 but in a SOUNDING envelope that decays (R139, R143). -/
def State.PercussionSounds (s : State) : Prop :=
  let period := (wordAt s.tab.playSettings (if s.prc.slow then 5 else 4)).toNat
  let gain := if s.prc.envelope = .sounding ∧ s.prc.halving.running = true then
      s.prc.level * (2 * period - min s.prc.halving.count period) / (2 * period)
    else 0
  s.percussionSignal s.renderEngines.signals
    = s.busSignal s.renderEngines.signals 27 * ((gain : Rat) / 4095)

/-- The rotor input: the dry signal, with Cascade In at its gain in CASCADE (R160). -/
def State.inputOf (s : State) (dry : Sample) : Rat :=
  if (wordAt s.tab.rotorSettings 15).toNat = 1 then
    dry + s.out.cascadeIn * ((wordAt s.tab.rotorSettings 14).toNat / 256)
  else dry

/-- How much of a tone a filter passes, as a ratio of amplitudes; the tone moves on by the given angle in a
tick, so that its frequency is angle / 2 pi of the tick rate. -/
noncomputable def Biquad.gain (f : Biquad) (angle : ℝ) : ℝ :=
  let back : ℂ := Complex.exp (-(angle * Complex.I))
  ‖(f.b0 : ℂ) + f.b1 * back + f.b2 * back ^ 2‖ / ‖1 + (f.a1 : ℂ) * back + f.a2 * back ^ 2‖

/-- What the crossover's filter does: it is of second order, each output made of its last three inputs and
its last two outputs, and of no lower order; what its memory holds dies away; a constant passes unchanged; and
it is a low-pass filter with its corner at 1/60 of the tick rate, to 1/2^60 of a radian: it passes half of the
power of a tone at the corner, more below it and less above (R161; assumption log 9). -/
structure Biquad.CrossesOver (f : Biquad) : Prop where
  recursion : ∀ (m : CrossoverState) (x₀ x₁ x₂ : Sample),
    let r₀ := f.run m x₀
    let r₁ := f.run r₀.1 x₁
    let r₂ := f.run r₁.1 x₂
    r₂.2 = f.b0 * x₂ + f.b1 * x₁ + f.b2 * x₀ - f.a1 * r₁.2 - f.a2 * r₀.2
  order : ¬ ∃ z : ℂ, f.b0 * z ^ 2 + f.b1 * z + f.b2 = 0 ∧ z ^ 2 + f.a1 * z + f.a2 = 0
  settles : ∀ z : ℂ, z ^ 2 + f.a1 * z + f.a2 = 0 → ‖z‖ < 1
  constant : f.gain 0 = 1
  corner : ∃ corner : ℝ, |corner - 2 * Real.pi / 60| ≤ 1 / 2 ^ 60 ∧ f.gain corner ^ 2 = 1 / 2 ∧
    ∀ angle : ℝ, 0 ≤ angle → angle ≤ Real.pi →
      (angle < corner → 1 / 2 < f.gain angle ^ 2) ∧ (corner < angle → f.gain angle ^ 2 < 1 / 2)

/-- What the rotor signals are at a tick: the drum band is the output of the crossover's filter for the rotor input and the
horn line takes the rest of it; each rotor is heard at a mic with the gain of its facing there, the horn with
its Doppler delay, both mixed by the balance (R160 to R164); ROTOR LEFT, RIGHT and SUM are the sources 1 to 3
(R169). -/
structure State.RotorsHeard (s : State) : Prop where
  band : s.formAudio.2.drumBand = s.inputOf s.formAudio.2.dry * Config.crossoverFilter.biquad.b0
    + s.rot.crossover.first
  memory : s.formAudio.1.rot.crossover
    = (let f := Config.crossoverFilter.biquad
       let input := s.inputOf s.formAudio.2.dry
       let band := s.formAudio.2.drumBand
       ⟨input * f.b1 - band * f.a1 + s.rot.crossover.second, input * f.b2 - band * f.a2⟩)
  mic : ∀ left : Bool, s.sourceSample s.formAudio.2 (if left then 1 else 2)
    = (let setting := fun i : Nat => wordAt s.tab.rotorSettings i
       let quarter : Word := 16384
       let facingOf := fun (position angle : Word) =>
         facing (position - (if left then angle - quarter else angle + quarter))
       let gain : Rat → Rat := fun c => 1 - (setting 13).toNat / 256 * ((1 - c) / 2)
       let horn := facingOf s.rot.horn.position (setting 9)
       let drum := facingOf s.rot.drum.position (setting 10)
       let delay := (((setting 12).toNat : Rat) * (1 - horn)).floor.toNat
       let hornBand := s.inputOf s.formAudio.2.dry - s.formAudio.2.drumBand
       let hornPickup := heardBack (hornBand :: s.rot.hornLine.toList.dropLast) delay * gain horn
       let drumPickup := s.formAudio.2.drumBand * gain drum
       ((setting 11).toNat : Rat) / 256 * hornPickup
         + ((256 - (setting 11).toNat : Nat) : Rat) / 256 * drumPickup)
  sum : ∀ a : Signals, s.sourceSample a 3 = s.sourceSample a 1 / 2 + s.sourceSample a 2 / 2

/-! ### Laws -/

/-- The keys whose contact for a bus is closed on a wheel (R76). -/
def State.keysOn (s : State) (row : BusRow) (w : Wheel) : List KeyId :=
  (List.finRange 147).filter (fun k =>
    (contactsOf k).any (fun c => contactRow (keyManual k) c == row && s.contact k c == .closed (some w)))

/-- The Contact Schedule stands in non-decreasing order of due tick, by distance ahead of the Tick Count; it
holds at most one entry for a contact, a CLOSE if it is open and an OPEN if it is closed; an UP or DOWN key has
no entry, a DESCENDING one CLOSEs only, an ASCENDING one OPENs only (R48, R63). -/
structure State.ScheduleLawful (s : State) : Prop where
  ordered : s.seq.schedule.Pairwise
    (fun x y => (x.due - s.seq.tickCount).toNat ≤ (y.due - s.seq.tickCount).toNat)
  once : (s.seq.schedule.map (fun x => (x.key, x.contact))).Nodup
  contact : ∀ x ∈ s.seq.schedule, x.contact ∈ contactsOf x.key ∧
    (x.kind = .close ↔ s.contact x.key x.contact = .opened)
  state : ∀ x ∈ s.seq.schedule,
    s.keyState x.key = (match x.kind with
      | .close => .descending
      | .open_ => .ascending)

/-- A key's contacts and entries are as its state says: UP all open, DOWN all closed, DESCENDING with a CLOSE
pending and one for every open contact, ASCENDING with an OPEN pending and one for every closed contact; CP
of a LOWER or PEDAL key stays open (R48). That an UP or DOWN key has no entry, and a moving key none of the
other direction, is in the schedule's own law. -/
structure State.KeysLawful (s : State) : Prop where
  up : ∀ k, s.keyState k = .up → ∀ c, s.contact k c = .opened
  down : ∀ k, s.keyState k = .down → ∀ c ∈ contactsOf k, s.contact k c ≠ .opened
  descending : ∀ k, s.keyState k = .descending → s.hasEntry k = true ∧
    ∀ c ∈ contactsOf k, s.contact k c = .opened → ∃ x ∈ s.seq.schedule, x.key = k ∧ x.contact = c
  ascending : ∀ k, s.keyState k = .ascending → s.hasEntry k = true ∧
    ∀ c ∈ contactsOf k, s.contact k c ≠ .opened → ∃ x ∈ s.seq.schedule, x.key = k ∧ x.contact = c
  absent : ∀ k c, c ∉ contactsOf k → s.contact k c = .opened

/-- The percussion envelope is OFF exactly while percussion is disabled; ARMED only while every UPPER key is
UP, SOUNDING and SPENT only while one is not; its level is 0 but in a SOUNDING envelope that decays, where
it is 16 to 4,095 (R136, R137). -/
structure State.EnvelopeLawful (s : State) : Prop where
  off : s.prc.envelope = .off ↔ s.prc.enable = false
  armed : s.prc.envelope = .armed → s.manualUp .upper = true
  held : s.prc.envelope = .sounding ∨ s.prc.envelope = .spent → s.manualUp .upper = false
  decays : s.prc.halving.running = true →
    s.prc.envelope = .sounding ∧ 16 ≤ s.prc.level ∧ s.prc.level ≤ 4095
  waits : s.prc.halving.running = false → s.prc.level = 0

/-- Each count equals the number of keys of its manual whose contact for that bus is closed on that
wheel, and the schedule is lawful (R63, R76). -/
structure State.CountsMatch (s : State) : Prop where
  counts : ∀ row w, s.bus.countOf row w = (s.keysOn row w).length
  schedule : s.ScheduleLawful

/-- The Free List holds exactly the FREE engines and the LRU List exactly the IDLE engines, each once; an
engine that is LOADING or WRITING_BACK has exactly one store request, of its own kind, and any other
none (R96, R98). -/
structure EngineCache.Listed (c : EngineCache) : Prop where
  free : ∀ e : EngineId, c.free.count e = if c.engines[e].state = .free then 1 else 0
  lru : ∀ e : EngineId, c.lru.count e = if c.engines[e].state = .idle then 1 else 0
  loads : ∀ e : EngineId, (c.queue.filter (fun r => r.engine == e && r.kind == .load)).length
    = if c.engines[e].state = .loading then 1 else 0
  writeBacks : ∀ e : EngineId, (c.queue.filter (fun r => r.engine == e && r.kind == .writeBack)).length
    = if c.engines[e].state = .writingBack then 1 else 0

/-- An engine holds a wheel unless it is FREE, which is clean; a next wheel only in WRITING_BACK, another one
than its own; a settle count only in IDLE, up to 256 (R93). -/
structure Engine.Lawful (r : Engine) : Prop where
  free : r.state = .free → r.wheel = none ∧ r.dirty = false
  wheel : r.state ≠ .free → r.wheel ≠ none
  next : r.next ≠ none → r.state = .writingBack ∧ r.next ≠ r.wheel
  settle : r.settle ≤ 256 ∧ (r.state ≠ .idle → r.settle = 0)

/-- Engine e is LOADING, sounding or keeping wheel w, or will load it once it has written back (R94). -/
def EngineCache.Serves (c : EngineCache) (e : EngineId) (w : Wheel) : Prop :=
  (((c.engines[e]).state = .loading ∨ (c.engines[e]).state = .active ∨ (c.engines[e]).state = .idle) ∧
    (c.engines[e]).wheel = some w) ∨
  ((c.engines[e]).state = .writingBack ∧ (c.engines[e]).next = some w)

/-- A wheel's bound engine is the engine that serves it; an ACTIVE engine's wheel is demanded and an IDLE
one's is not; a demanded wheel is bound or starved, one of these at a time, and no other wheel is starved;
a store request names the wheel of its engine (R93, R94, R97, R98). -/
structure State.EnginesBound (s : State) : Prop where
  engines : ∀ e : EngineId, (s.eng.engines[e]).Lawful
  bound : ∀ (w : Wheel) (e : EngineId), (s.eng.store[w]).bound = some e ↔ s.eng.Serves e w
  active : ∀ (e : EngineId) w, (s.eng.engines[e]).state = .active → (s.eng.engines[e]).wheel = some w →
    s.bus.demand[w] ≠ 0
  idle : ∀ (e : EngineId) w, (s.eng.engines[e]).state = .idle → (s.eng.engines[e]).wheel = some w →
    s.bus.demand[w] = 0
  starved : ∀ w : Wheel, s.eng.starved.count w
    = if s.bus.demand[w] ≠ 0 ∧ (s.eng.store[w]).bound = none then 1 else 0
  queue : ∀ q ∈ s.eng.queue, (s.eng.engines[q.engine]).wheel = some q.wheel

/-- The sum of a wheel's counts over all manuals and busses (R78). -/
def BusMatrix.total (b : BusMatrix) (w : Wheel) : Nat :=
  ((List.finRange 28).map (fun r => b.countOf r w)).sum

/-- The demand of a wheel equals the sum of its counts (R78). -/
def State.DemandIsSum (s : State) : Prop := ∀ w : Wheel, s.bus.demand[w] = s.bus.total w

/-- The queues and counts of the part stay within the room the manual gives them: Reply Queue (R10,
with the place held for the request in hand), Forward Queue (R8), arbiter wait count (R11), Contact
Schedule (R63), click pulses (R88), fade position (R171), pending changes and notice timer (R189). -/
structure State.Bounded (s : State) : Prop where
  replies : s.lnk.replies.length + (if s.lnk.replyHeld then 1 else 0) ≤ 4
  forward : reservedWords s.lnk.forward ≤ 64
  waitCount : s.lnk.waitCount ≤ 4
  schedule : s.seq.schedule.length ≤ 256
  clicks : s.bus.clicks.length ≤ 32
  fade : s.out.fade ≤ 64
  pendingChanges : s.flt.pendingChanges ≤ 255
  noticeTimer : s.flt.noticeTimer.count ≤ 16320

/-- A record holds an action only in LATCHED or AUTO_RETRY (R180, R182); in INITIALIZING no record
holds one and no restore is in flight (R38, R191). -/
structure State.EpisodesAllowed (s : State) : Prop where
  mode : ∀ k, (s.record k).held.isSome → (s.faultMode k).holds
  initializing : s.req.opState = .initializing →
    s.req.cursor = none ∧ ∀ k, (s.record k).held = none

/-- The Starved Wheel List is non-empty only while the Free List and the LRU List are both empty
(R97). -/
def State.StarvedWaits (s : State) : Prop := s.eng.starved ≠ [] → s.eng.free = [] ∧ s.eng.lru = []

/-- From r to q a rotor has been retargeted (R153). -/
structure Rotor.Retargeted (target : Nat) (arrival : RotorState) (r q : Rotor) : Prop where
  kept : q.speed = r.speed ∧ q.position = r.position ∧ q.ticked = r.ticked
  aim : q.target = target
  state : q.state = if r.speed < target then .rising else if target < r.speed then .falling else arrival
  remainder : q.remainder = if r.speed = target ∧ arrival = .stopped then 0 else r.remainder

/-- A rotor's speed stands against its target as its state says (R152), and its position remainder is
in its range (R157). -/
structure Rotor.Lawful (r : Rotor) : Prop where
  stopped : r.state = .stopped → r.speed = 0 ∧ r.target = 0
  slow : r.state = .slow → r.speed = r.target
  fast : r.state = .fast → r.speed = r.target
  rising : r.state = .rising → r.speed < r.target
  falling : r.state = .falling → r.target < r.speed
  parking : r.state = .parking → r.speed = 20 ∧ r.target = 20
  remainder : r.remainder < 4800000

/-- A rotor goes where the selector sends it: under SLOW to its slow speed and under FAST to its fast speed;
under STOP, on its way, to the creep speed while the brake is on and to 0 while it is off, and it is PARKING
only while the brake is on (R152, R153, R154). -/
structure State.RotorHeads (s : State) (i : RotorId) : Prop where
  slow : s.rot.selector = .slow → (s.rot.rotor i).target = s.slowSpeed i ∧
    ((s.rot.rotor i).state = .slow ∨ (s.rot.rotor i).state = .rising ∨ (s.rot.rotor i).state = .falling)
  fast : s.rot.selector = .fast → (s.rot.rotor i).target = s.fastSpeed i ∧
    ((s.rot.rotor i).state = .fast ∨ (s.rot.rotor i).state = .rising ∨ (s.rot.rotor i).state = .falling)
  stop : s.rot.selector = .stop → (s.rot.rotor i).state ≠ .slow ∧ (s.rot.rotor i).state ≠ .fast ∧
    ((s.rot.rotor i).state = .parking → s.rot.brake = true) ∧
    ((s.rot.rotor i).state = .rising ∨ (s.rot.rotor i).state = .falling →
      (s.rot.rotor i).target = if s.rot.brake then 20 else 0)

/-- Both rotors are as R152 and R153 describe them; in INITIALIZING the selector is STOP (R25, R166). -/
structure State.RotorsLawful (s : State) : Prop where
  rotors : ∀ i, (s.rot.rotor i).Lawful
  heads : ∀ i, s.RotorHeads i
  initializing : s.req.opState = .initializing → s.rot.selector = .stop

end Sys2Proof.Machine
end

