-- ==== Sys2Proof/Certificates/Slice0/Obligations.lean ====
section
/-!
DEFINITION. The statements for the provers: what the commands do, what they leave alone, and the laws
that every step keeps.
-/

open Sys2Proof Sys2Proof.Machine

/-! ### The step and the resets -/

/-- The command at the front of the queue is run on the state with the queue's rest. -/
def Obligations.StepRunsFrontCommand : Prop :=
  ∀ (c : Instr) (q : List Instr) (s : State), step (s.setPending (c :: q)) = exec c (s.setPending q)

/-- Every command answers a next state on every state and leaves the queue alone (assumption log 30). -/
def Obligations.EveryCommandAnswers : Prop :=
  ∀ (c : Instr) (s : State), ∃ t, exec c s = .next t ∧ t.pending = s.pending

/-- With no command waiting, one word of what LINK_OUT is sending goes out (the model's choice,
assumption log 6). -/
def Obligations.IdleStepSendsOneWord : Prop :=
  ∀ s : State, s.pending = [] → ∃ t, step s = .next t ∧ Frame [.lnk] s t ∧
    (s.req.held = true → t = s) ∧
    (s.Running → ∀ a w rest, s.lnk.toSend = a :: w :: rest → t.lnk.toSend = w :: rest ∧
      (∀ f q, s.lnk.transmit = .forwarding → s.lnk.forward = f :: q →
        t.lnk.forward = { f with room := f.room - 1 } :: q))

/-- POWER_ON and RESET_PIN hold every block in its full-reset state, with the Reset Cause of R42; until
the release no other command changes anything (R19, R42, R57, R75, R92, R117, R134, R149, R166, R178,
R191; that other commands change nothing meanwhile is the model's reading, assumption log 18, that a
RESET_PIN within a reset keeps its cause is assumption log 19, that a timer the spec gives as 0 does not
run while RESET is held is the model's reading too, log 18, and an engine's own tone state is the model's
choice, log 23). -/
def Obligations.FullResetHoldsEveryBlock : Prop :=
  (∀ s : State, ∃ t u, exec .powerOn s = .next t ∧ t.req.resetCause = .powerOn ∧
    exec .resetPin s = .next u ∧
      u.req.resetCause = (if s.req.held then s.req.resetCause else .resetPin) ∧
    ∀ r : State, r = t ∨ r = u →
      r.pending = s.pending ∧ r.req.held = true ∧ r.req.opState = .initializing ∧
      r.req.inFlight = none ∧ r.req.lastResult = .none ∧ r.req.cursor = none ∧
      r.lnk.linked = false ∧ r.lnk.rate = 0 ∧ r.lnk.window = 0 ∧ r.lnk.lockRun = 0 ∧
      r.lnk.windowTimer = Timer.stopped ∧ r.lnk.quiet = Timer.stopped ∧ r.lnk.toSend = [] ∧
      r.lnk.txRate = r.lnk.lockRate ∧ r.lnk.lockRate = 0 ∧ r.lnk.assembly = none ∧ r.lnk.loss = 0 ∧
      r.lnk.forward = [] ∧ r.lnk.replies = [] ∧ r.lnk.waitCount = 0 ∧ r.lnk.transmit = .stopLevel ∧
      (∀ k, r.keyState k = .up ∧ (r.key.records[k]).travel = 0 ∧ ∀ c, r.contact k c = .opened) ∧
      r.key.hold = false ∧ r.seq.tickCount = 0 ∧ r.seq.schedule = [] ∧
      (∀ row w, r.bus.countOf row w = 0) ∧ (∀ w : Wheel, r.bus.demand[w] = 0) ∧ r.bus.clicks = [] ∧
      (∀ e : EngineId, (r.eng.engines[e]).state = .free ∧ (r.eng.engines[e]).dirty = false ∧
        (r.eng.engines[e]).wheel = none ∧ (r.eng.engines[e]).next = none ∧
        (r.eng.engines[e]).settle = 0 ∧ (r.eng.engines[e]).tone = ToneState.rest) ∧
      (∀ w : Wheel, (r.eng.store[w]).tone = ToneState.rest ∧ (r.eng.store[w]).bound = none) ∧
      r.eng.wrap = 0 ∧ r.eng.free = List.finRange 64 ∧ r.eng.lru = [] ∧ r.eng.starved = [] ∧
      r.eng.queue = [] ∧
      (∀ m, ∀ n : Fin 9, (r.reg.manualBars m)[n] = ⟨0, none⟩) ∧
      (∀ m : Manual, r.reg.glide[m.toFin] = Timer.stopped ∧ r.reg.pendingReg[m.toFin] = none) ∧
      r.reg.expression = 127 ∧
      r.prc.enable = false ∧ r.prc.soft = false ∧ r.prc.slow = false ∧ r.prc.third = false ∧
      r.prc.envelope = .off ∧ r.prc.level = 0 ∧ r.prc.halving = Timer.stopped ∧
      r.prc.setting = ScannerSetting.off ∧ r.prc.phase = 0 ∧
      (∀ i : Fin 64, r.prc.upperLine[i] = 0 ∧ r.prc.lowerLine[i] = 0) ∧
      r.rot.selector = .stop ∧ r.rot.brake = false ∧
      (∀ i, (r.rot.rotor i).state = .stopped ∧ (r.rot.rotor i).speed = 0 ∧
        (r.rot.rotor i).target = 0 ∧ (r.rot.rotor i).position = 0 ∧ (r.rot.rotor i).remainder = 0) ∧
      r.rot.crossover = CrossoverState.rest ∧ (∀ i : Fin 33, r.rot.hornLine[i] = 0) ∧
      r.out.source = .internal ∧ r.out.missing = 0 ∧ r.out.goodRun = 0 ∧ r.out.cascadeValid = false ∧
      r.out.cascadeRun = 0 ∧ r.out.muteRequest = true ∧ r.out.fade = 0 ∧
      (∀ o : OutputId, r.out.limiters[o] = ⟨0, none, false⟩) ∧
      (∀ k, r.record k = FaultRecord.clear) ∧ r.flt.fault = false ∧ r.flt.warn = false ∧
      r.flt.silence = Timer.stopped ∧
      r.flt.pendingChanges = 0 ∧ r.flt.noticeTimer.count = 0 ∧ r.flt.waiting = false ∧
      (∀ i < 20, r.entryWords .counters i = [0])) ∧
  ∀ (c : Instr) (s : State), s.req.held = true → c ≠ .powerOn → c ≠ .resetPin →
    (∀ strap, c ≠ .resetRelease strap) → exec c s = .next s

/-- RESET_RELEASE samples the strap pins, which give the station number, starts the initialization timer and
the first search window, and LINK_OUT begins an idle word of Kind 15 with marker set and odd parity (R12,
R13, R17, R19, R26); after POWER_ON with the pins at 0 it reaches the model's reset state (assumption
log 1). While no full reset is held it changes nothing (the model's reading, assumption log 18). -/
def Obligations.ReleaseEntersInitializing : Prop :=
  (∀ (strap : BitVec 5) (s : State), s.req.held = true →
    ∃ t, exec (.resetRelease strap) s = .next t ∧
      t.req = { s.req with held := false, initTimer := Timer.start } ∧ t.lnk.strap = strap ∧
      t.station = strap.toNat ∧ t.lnk.windowTimer = Timer.start ∧ t.lnk.transmit = .idle ∧
      t.lnk.toSend = [wordOnLink true (headerWord 0 15 0 0)] ∧
      t.lnk = { s.lnk with
        strap := strap, windowTimer := Timer.start, transmit := .idle, toSend := t.lnk.toSend } ∧
      Frame [.lnk, .req, .tab] s t) ∧
  (∀ (strap : BitVec 5) (s : State), s.Running → exec (.resetRelease strap) s = .next s) ∧
  ∀ s : State, ∃ t, exec .powerOn s = .next t ∧
    exec (.resetRelease 0) t = .next (State.reset.setPending s.pending)

/-- The initialization timer counts in INITIALIZING; at 2,048 every table holds its factory contents, the
part enters STANDBY, each manual takes preset 0, the silence timer starts, each condition that stands present
is raised under the factory configuration, and the change of state counts as one pending change (R26, R27,
R134, R181, R191; the order of these is the model's, assumption log 29; that the timer then stops at 0 is the
model's choice, assumption log 40; that the command counts one tick of the timer, at most once in a tick, is
the model's reading, assumption log 5 and log 3). -/
def Obligations.InitializingEnds : Prop :=
  ∀ s : State, s.Running → s.req.opState = .initializing → s.req.initTimer.due = true →
    (s.req.initTimer.count + 1 < 2048 →
      exec .initializationDone s = .next (s.setReq { s.req with initTimer := s.req.initTimer.add })) ∧
    (2048 ≤ s.req.initTimer.count + 1 → ∃ t, exec .initializationDone s = .next t ∧
      t.req = { s.req with opState := .standby, initTimer := Timer.stopped } ∧
      t.tab = Tables.factory s.lnk.strap ∧
      (∀ m, ∀ n : Fin 9, (t.reg.manualBars m)[n] = ⟨t.presetLevel m 0 n, none⟩) ∧
      (∀ m : Manual, t.reg.glide[m.toFin] = Timer.stopped ∧ t.reg.pendingReg[m.toFin] = none) ∧
      t.reg.expression = s.reg.expression ∧ t.flt.silence = Timer.start ∧ t.Signalled ∧
      (∀ k, k ≠ .engineShortage → t.record k = if (s.record k).present then
          (s.record k).occurred (t.faultMode k) (t.faultAction k) else s.record k) ∧
      ((s.record .linkLost).present = true → (s.record .linkLost).held = none →
        Released allManuals s t) ∧
      ((s.record .linkLost).present = false → t.record .engineShortage
          = if (s.record .engineShortage).present then
              (s.record .engineShortage).occurred (t.faultMode .engineShortage)
                (t.faultAction .engineShortage)
            else s.record .engineShortage) ∧
      ((∀ k, (s.record k).present = false) → s.flt.pendingChanges = 0 →
        t.flt.noticeTimer = Timer.start ∧ t.flt.pendingChanges = 1) ∧
      ((s.record .linkLost).present = false ∨ (s.record .linkLost).held ≠ none →
        Frame [.req, .tab, .reg, .replies, .hold, .mute, .flt] s t) ∧
      Frame [.req, .tab, .reg, .replies, .hold, .mute, .key, .seq, .bus, .eng, .prc, .flt] s t)

/-- What the factory tables hold: the Key Map (R45), the Contact Profile (R61), the Wheel Assignment with
its foldback (R83), the Bus Load Curve (R84), the Wheel Voicing (R87), the Wheel Pitch increments, each the
nearest integer to 32.7032 x 2^((n - 1)/12) Hz x 16,777,216 / 48,000 (R95), the Drawbar Law (R121), the
Presets (R122), the Expression Curve (R130), the Fault Configuration (R179), the Link Settings with the strap
value (R18), the Rotor Settings (R165), the Play Settings (R30, R90, R109, R125, R149, R183) and the Output
Settings (R169). -/
def Obligations.FactoryTables : Prop :=
  ∀ strap : BitVec 5, let tab := Tables.factory strap
    (∀ (source : Fin 4) (raw : Fin 128),
      keyOfWord tab.keyMap[source.val * 128 + raw.val]
        = if source.val = 0 ∧ 36 ≤ raw.val ∧ raw.val ≤ 96 then some (Fin.ofNat 147 (raw.val - 36))
          else if source.val = 1 ∧ 36 ≤ raw.val ∧ raw.val ≤ 96 then
            some (Fin.ofNat 147 (61 + (raw.val - 36)))
          else if source.val = 2 ∧ 36 ≤ raw.val ∧ raw.val ≤ 60 then
            some (Fin.ofNat 147 (122 + (raw.val - 36)))
          else none) ∧
    tab.contactProfile.toList = [40, 64, 16, 88, 112, 136, 160, 184, 208, 232] ++
      [40, 64, 16, 88, 112, 136, 160, 184, 208] ++ [40, 64, 16, 88, 112, 136, 160, 184, 208] ∧
    (∀ (k : KeyId) (n : Fin 9),
      let wheel : Int := ((wordAt tab.wheelAssignment (assignmentIndex k n)).toNat : Int)
      let base : Int := keyIndex k + (if keyManual k = .pedal then 1 else 13)
      let sought : Int := base + [-12, 7, 0, 12, 19, 24, 28, 31, 36].getD n.val 0
      1 ≤ wheel ∧ wheel ≤ 96 ∧ (wheel - sought) % 12 = 0 ∧
        (1 ≤ sought ∧ sought ≤ 96 → wheel = sought) ∧ (sought < 1 → wheel ≤ 12) ∧
        (96 < sought → 85 ≤ wheel)) ∧
    (∀ n : Fin 96,
      let nearest : Rat := 32.7032 * 16777216 / 48000
      let increment : Rat := ((tab.wheelPitch[n]).toNat : Rat)
      ((increment - 1 / 2) / nearest) ^ 12 ≤ 2 ^ n.val ∧ 2 ^ n.val ≤ ((increment + 1 / 2) / nearest) ^ 12) ∧
    (∀ n : Fin 96, bitsOf tab.wheelVoicing[n] 15 8 = 1 ∧ bitsOf tab.wheelVoicing[n] 7 0
      = if n.val < 12 then 176 else if n.val < 24 then 208 else if n.val < 72 then 224
        else if n.val < 84 then 200 else 168) ∧
    tab.busLoadCurve.toList
      = [64, 104, 134, 156, 173, 187, 198, 207, 215, 222, 228, 233, 238, 242, 246, 249] ∧
    tab.drawbarLaw.toList = [0, 16, 23, 32, 45, 64, 90, 128, 181] ∧
    (∀ (m : Manual) (p : Fin 16),
      (List.range 9).map (fun n => (wordAt tab.presets (m.toFin.val * 144 + p.val * 9 + n)).toNat)
        = (match m with
          | .pedal =>
            [[8, 0, 6, 0, 0, 0, 0, 0, 0], [8, 0, 8, 0, 0, 0, 0, 0, 0], [6, 0, 4, 0, 0, 0, 0, 0, 0],
             [8, 0, 8, 4, 0, 0, 0, 0, 0], [5, 0, 5, 0, 0, 0, 0, 0, 0], [8, 0, 0, 0, 0, 0, 0, 0, 0],
             [0, 0, 8, 0, 0, 0, 0, 0, 0], [8, 0, 6, 2, 0, 0, 0, 0, 0], [8, 4, 8, 4, 2, 0, 0, 0, 0],
             [4, 0, 4, 0, 0, 0, 0, 0, 0], [7, 0, 5, 0, 0, 0, 0, 0, 0], [8, 0, 8, 8, 0, 0, 0, 0, 0],
             [6, 0, 6, 3, 0, 0, 0, 0, 0], [8, 0, 4, 0, 0, 0, 0, 0, 0], [8, 2, 8, 0, 0, 0, 0, 0, 0],
             [0, 0, 0, 0, 0, 0, 0, 0, 0]]
          | _ =>
            [[8, 8, 8, 0, 0, 0, 0, 0, 0], [8, 3, 8, 0, 0, 0, 0, 0, 0], [0, 0, 8, 0, 0, 0, 0, 0, 0],
             [0, 0, 8, 8, 0, 0, 0, 0, 0], [8, 8, 8, 8, 0, 0, 0, 0, 0], [6, 8, 8, 6, 0, 0, 0, 0, 0],
             [8, 6, 8, 0, 0, 0, 0, 0, 0], [8, 0, 8, 8, 0, 8, 0, 0, 8], [8, 8, 8, 8, 8, 8, 8, 8, 8],
             [0, 0, 8, 0, 0, 0, 0, 0, 8], [8, 8, 7, 0, 0, 0, 0, 0, 0], [6, 6, 4, 4, 0, 0, 0, 0, 0],
             [8, 0, 0, 8, 0, 8, 8, 0, 0], [0, 0, 6, 8, 7, 6, 5, 4, 0], [8, 8, 8, 0, 0, 0, 8, 8, 8],
             [0, 0, 0, 0, 0, 0, 0, 0, 0]]).getD p.val []) ∧
    (∀ e : Fin 128, let entry : Int := (tab.expressionCurve[e]).toNat
      (2 * 127 * 127 * (entry - 32) - 2 * 224 * (e.val * e.val : Nat)).natAbs ≤ 127 * 127) ∧
    (∀ k : FaultKind, (faultModeOfWord tab.faultConfiguration[k.toFin],
        faultActionOfWord tab.faultConfiguration[k.toFin])
      = match k with
        | .linkLost => (.autoRetry, .release)
        | .consoleSilence => (.reportOnly, .release)
        | .clockFallback => (.autoRetry, .mute)
        | _ => (.reportOnly, .none)) ∧
    tab.linkSettings.toList = [strap.zeroExtend 16, 6, 0x8004, 8] ∧
    tab.rotorSettings.toList = [80, 680, 40, 50, 70, 600, 6, 4, 0, 0, 0, 128, 96, 80, 256, 0] ∧
    tab.playSettings.toList = [6, 6, 3, 4, 1800, 7200, 181, 9, 16, 32, 56, 2, 1, 8, 0, 0] ∧
    ∀ o : OutputId,
      let entry := fun part : Nat => wordAt tab.outputSettings (3 * o.val + part)
      bitsOf (entry 0) 15 8 = [224, 224, 224, 0].getD o.val 0 ∧
        bitsOf (entry 0) 7 0 = [1, 2, 4, 0].getD o.val 0 ∧
        bitsOf (entry 1) 7 0 = 240 ∧ bitsOf (entry 1) 15 8 = 1 ∧ bitsOf (entry 2) 15 8 = 160 ∧
        bitsOf (entry 2) 7 4 = [3, 3, 0, 0].getD o.val 0 ∧ (entry 2).getLsbD 3 = false ∧
        limitModeOfWord (entry 2) = [LimitMode.afterN, .afterN, .report, .off].getD o.val .off

/-! ### The Console Link -/

/-- A good word is one with the right start and stop level and an odd number of ones (R1). The check value
starts from all ones and takes the data bits from bit 15 down, each by the bit step of R4, and a frame passes
when it equals its last word. The words and the replies that the part sends are good, their fields read back,
and their check word passes (R10, R22, R29). -/
def Obligations.WordsAndRepliesAreGood : Prop :=
  (∀ w : LinkWord, goodWord w = true ↔ w.startHigh = false ∧ w.stopHigh = true ∧
    ((List.range 16).countP (fun i => w.data.getLsbD i) + (if w.marker then 1 else 0)
      + (if w.parity then 1 else 0)) % 2 = 1) ∧
  (∀ marker w, goodWord (wordOnLink marker w) = true) ∧
  checkValue [] = 0xFFFF ∧
  (∀ ws w, checkValue (ws ++ [w])
    = [w.getLsbD 15, w.getLsbD 14, w.getLsbD 13, w.getLsbD 12, w.getLsbD 11, w.getLsbD 10, w.getLsbD 9,
       w.getLsbD 8, w.getLsbD 7, w.getLsbD 6, w.getLsbD 5, w.getLsbD 4, w.getLsbD 3, w.getLsbD 2,
       w.getLsbD 1, w.getLsbD 0].foldl crcBit (checkValue ws)) ∧
  (∀ (reg : Word) (bit : Bool) (i : Fin 16), (crcBit reg bit).getLsbD i =
    xor (decide (i.val ≠ 0) && reg.getLsbD (i.val - 1))
      (xor (reg.getLsbD 15) bit && decide (i.val = 0 ∨ i.val = 5 ∨ i.val = 12))) ∧
  (∀ ws w, checkPasses (ws ++ [w]) = true ↔ checkValue ws = w) ∧
  ∀ (s : State) (tag : BitVec 3) (status : Status) (echo : Nat) (data : List Word),
    data.length ≤ 14 → echo < 256 →
    let ws := s.replyWords tag status echo data
    ws.length = 3 + data.length ∧ checkPasses ws = true ∧ headerStation (ws.headD 0) = s.station ∧
      headerKind (ws.headD 0) = 8 ∧ headerLength (ws.headD 0) = 1 + data.length ∧
      headerTag (ws.headD 0) = tag ∧ bitsOf (ws.getD 1 0) 15 8 = statusCode status ∧
      bitsOf (ws.getD 1 0) 7 0 = echo ∧ (ws.drop 2).take data.length = data

/-- LINK_WORD while SEARCHING: a good word adds one to the lock run, a bad one sets it to 0, and the
eighth good word in a row locks at the current rate, with LINK_LOST absent from then on and its retry timer
started where R181 says so (R13, R14, R181). Of the fields that R14 does not list, those out of use while
LINKED are the model's: the lock run stays at its count of 8 and the window timer stops at 0 (assumption
log 25). Nothing else is changed. -/
def Obligations.SearchingWordsLock : Prop :=
  ∀ (w : LinkWord) (s : State), s.Running → s.lnk.linked = false →
    (goodWord w = false → exec (.linkWord w) s = .next (s.setLnk { s.lnk with lockRun := 0 })) ∧
    (goodWord w = true → s.lnk.lockRun + 1 < 8 →
      exec (.linkWord w) s = .next (s.setLnk { s.lnk with lockRun := s.lnk.lockRun + 1 })) ∧
    (goodWord w = true → 8 ≤ s.lnk.lockRun + 1 → exec (.linkWord w) s = .next ((s.setLnk { s.lnk with
      lockRun := s.lnk.lockRun + 1, linked := true, loss := 0, quiet := Timer.start, window := 0
      windowTimer := Timer.stopped, assembly := none, sinceLock := true
      lockRate := s.lnk.rate }).withoutCondition .linkLost))

/-- LINK_WORD while LINKED with no frame in assembly: a bad word counts one loss; a marker-clear word is
a Stray Word, but not between a lock and the first marker word; an idle word is consumed; any other
marker word opens a frame, which the station filter takes or not and the Forward Queue admits or refuses
(R1, R3, R6, R8). That a listening station, whose number is 31, takes a broadcast frame and forwards it too
(R17) is the model's reading of R6's table (assumption log 27). -/
def Obligations.WordsOutsideFrames : Prop :=
  ∀ (w : LinkWord) (s : State), s.Running → s.lnk.linked = true → s.lnk.assembly = none →
    let heard := s.setLnk { s.lnk with loss := 0, quiet := Timer.start }
    (goodWord w = false → s.lnk.loss + 1 < 64 →
      exec (.linkWord w) s = .next (s.setLnk { s.lnk with loss := s.lnk.loss + 1 })) ∧
    (goodWord w = true → w.marker = false → exec (.linkWord w) s = .next
      (if s.lnk.sinceLock then heard
       else heard.setCnt { s.cnt with strayWords := s.cnt.strayWords + 1 })) ∧
    (goodWord w = true → w.marker = true → headerKind w.data = 15 →
      exec (.linkWord w) s = .next (heard.setLnk { heard.lnk with sinceLock := false })) ∧
    (goodWord w = true → w.marker = true → headerKind w.data ≠ 15 →
      ∃ t, exec (.linkWord w) s = .next t ∧ FrameOpened w.data heard t)

/-- LINK_WORD with a frame in assembly. A marker-clear word takes the next place, and so does a bad word,
which fails the frame and counts a loss, the 64th of which loses the link. The word that completes the frame
decides between a Check Drop, which raises LINK_ERRORS, and a good frame. A good marker word ends the frame
early, a failed one as a Check Drop and any other as a Short Frame, and then is an idle word or opens the
next frame. A dropped frame leaves the Forward Queue, and one that was refused there is not counted again
(R1, R3, R5, R8, R9, R16). That a listening station takes a broadcast frame and forwards it too (R17) is the
model's reading (assumption log 27), and so is that the quiet timer stops at 0 when the link is lost
(assumption log 25). -/
def Obligations.FramesEndOnce : Prop :=
  ∀ (w : LinkWord) (s : State) (a : Assembly), s.Running → s.lnk.linked = true →
    s.lnk.assembly = some a → a.words ≠ [] →
    let good := goodWord w
    let heard := s.setLnk (if good then { s.lnk with loss := 0, quiet := Timer.start }
      else { s.lnk with loss := s.lnk.loss + 1 })
    let whole := a.words ++ [w.data]
    let full := 2 + headerLength (a.words.headD 0) ≤ whole.length
    let queued := s.lnk.forward.map (fun f =>
      if f.complete then f else { f with words := f.words ++ [w.data] })
    let kept := if a.forwarding = .admitted then s.lnk.forward.filter (fun f => f.complete)
      else s.lnk.forward
    let ended := heard.setLnk { heard.lnk with assembly := none, forward := kept }
    let checkDropped := fun u : State => (a.forwarding = .refused → u = ended) ∧
      (a.forwarding ≠ .refused → EventReported .linkErrors
        (ended.setCnt { s.cnt with checkDrops := s.cnt.checkDrops + 1 }) u)
    let shortDropped := fun u : State => (a.forwarding = .refused → u = ended) ∧
      (a.forwarding ≠ .refused → u = ended.setCnt { s.cnt with shortFrames := s.cnt.shortFrames + 1 })
    let orLost := fun u t : State => (good = false ∧ 64 ≤ s.lnk.loss + 1 → LinkLost u t) ∧
      (good = true ∨ s.lnk.loss + 1 < 64 → t = u)
    (good = false ∨ w.marker = false →
      (¬ full → ∃ t, exec (.linkWord w) s = .next t ∧ orLost (heard.setLnk { heard.lnk with
        assembly := some { a with words := whole, failed := a.failed || !good }
        forward := if a.forwarding = .admitted then queued else s.lnk.forward }) t) ∧
      (full → a.failed = true ∨ good = false ∨ checkPasses whole = false →
        ∃ u t, exec (.linkWord w) s = .next t ∧ checkDropped u ∧ orLost u t) ∧
      (full → a.failed = false → good = true → checkPasses whole = true → a.take = false →
        exec (.linkWord w) s = .next ((heard.setLnk { heard.lnk with
          assembly := none
          forward := if a.forwarding = .admitted then queued.map (fun f => { f with complete := true })
            else s.lnk.forward }).setCnt { s.cnt with goodFrames := s.cnt.goodFrames + 1 }))) ∧
    (good = true → w.marker = true → ∃ u t, exec (.linkWord w) s = .next t ∧
      (a.failed = true → checkDropped u) ∧ (a.failed = false → shortDropped u) ∧
      (headerKind w.data = 15 → t = u.setLnk { u.lnk with sinceLock := false }) ∧
      (headerKind w.data ≠ 15 → FrameOpened w.data u t))

/-- The words of a frame that is addressed to this station or broadcast, put in one after another by
LINK_WORD, come to what the frame's own row does on the state in which the frame has been counted, a
broadcast one forwarded if it had the room, and the frame signalled as taken: the silence timer restarts and
CONSOLE_SILENCE goes absent (R3 to R8, R187). Every control move is its own row (R22, R118), and every COMMAND
of an assigned code and mode is its own row (R22, R34). That a taken frame is handled in the step of its last
word is assumption log 4; that the silence timer stays stopped in INITIALIZING (R191) and with window code 0
is assumption log 28; that a listening station, whose number is 31, takes a broadcast frame and forwards it
too (R17) is assumption log 27. -/
def Obligations.FrameReachesItsBlock : Prop :=
  (∀ (s : State) (station kind : Nat) (tag : BitVec 3) (payload : List Word), s.Running →
    s.lnk.linked = true → s.lnk.assembly = none →
    (station = 31 → ∀ f ∈ s.lnk.forward, f.complete = true) →
    station = s.station ∨ station = 31 → kind < 8 → payload.length ≤ 15 →
    let ws := frameWords station kind tag payload
    let words := frameOnLink ws
    let fits := reservedWords s.lnk.forward + (2 + payload.length) ≤ 64
    let counted := (s.setLnk { s.lnk with
        loss := 0, quiet := Timer.start, sinceLock := false
        forward := if station = 31 ∧ fits then s.lnk.forward ++ [⟨ws, 2 + payload.length, true⟩]
          else s.lnk.forward }).setCnt
      { s.cnt with
        goodFrames := s.cnt.goodFrames + 1
        forwardDrops := s.cnt.forwardDrops + (if station = 31 ∧ ¬ fits then 1 else 0) }
    let restarted := counted.setFlt { s.flt with
      silence := if s.req.opState = .initializing ∨ bitsOf s.tab.linkSettings[1] 2 0 = 0 then s.flt.silence
        else Timer.start }
    let taken := restarted.withoutCondition .consoleSilence
    let h : Head := ⟨if station = 31 then .broadcast else .addressed, tag⟩
    let result := execAll (words.map Instr.linkWord) s
    (kind = 0 → result = execAll (payload.map keyCommand) taken) ∧
    (kind = 1 → result = execAll (payload.map controlCommand) taken) ∧
    (kind = 2 → result = exec (.write h payload) taken) ∧
    (kind = 3 → result = exec (.read h payload) taken) ∧
    (kind = 4 → result = .next (taken.takeCommand h payload)) ∧
    (kind = 5 → result = exec (.unknownKind h .kind5) taken) ∧
    (kind = 6 → result = exec (.unknownKind h .kind6) taken) ∧
    (kind = 7 → result = exec (.unknownKind h .kind7) taken)) ∧
  (∀ (w : Word) (s : State), s.Running → exec (controlCommand w) s = .next (s.controlWord w)) ∧
  (∀ (c : Instr) (h : Head) (payload : List Word) (s : State), s.Running →
    commandRequest c = some (h, payload) → exec c s = .next (s.takeCommand h payload)) ∧
  ∀ (h : Head) (payload : List Word), 1 ≤ requestHigh payload → requestHigh payload ≤ 9 →
    (requestHigh payload = 5 → payload.length = 2 ∧ bitsOf (payload.getD 1 0) 9 8 ≠ 3) →
    ∃ c, commandRequest c = some (h, payload)

/-- The words of a frame for another station, put in one after another by LINK_WORD, stand at the end of
the Forward Queue as they arrived, complete and with room for the whole frame, if it had the room when
the header arrived; nothing but Good Frames changes outside the Link Unit (R6, R8, R9). -/
def Obligations.FrameIsForwardedUnchanged : Prop :=
  ∀ (s : State) (station kind : Nat) (tag : BitVec 3) (payload : List Word), s.Running →
    s.lnk.linked = true → s.lnk.assembly = none → (∀ f ∈ s.lnk.forward, f.complete = true) →
    station < 32 → kind < 15 → payload.length ≤ 15 →
    (8 ≤ kind ∨ (station ≠ 31 ∧ station ≠ s.station)) →
    reservedWords s.lnk.forward + (2 + payload.length) ≤ 64 →
    let ws := frameWords station kind tag payload
    ∃ t, execAll ((frameOnLink ws).map Instr.linkWord) s = .next t ∧
      t.lnk.forward = s.lnk.forward ++ [⟨ws, 2 + payload.length, true⟩] ∧ t.lnk.assembly = none ∧
      t.lnk.linked = true ∧ t.cnt = { s.cnt with goodFrames := s.cnt.goodFrames + 1 } ∧
      Frame [.lnk, .cnt] s t

/-- The quiet timer at 512, or the 64th bad word in a row outside a frame, loses the link; before that
only the timer or the loss count goes up (R16; a bad word inside a frame stands in FramesEndOnce). The window
timer at 2,048 moves the search to the next rate, or at the fourth window fails the cycle and reports
LINK_LOST present, which is an occurrence if it was absent (R13, R15, R181). That each command counts one
tick of its timer, at most once in a tick, is the model's reading (assumption log 5 and log 3), and so is
that the quiet timer stops at 0 while SEARCHING (assumption log 25). -/
def Obligations.LinkIsLostAndSearched : Prop :=
  ∀ s : State, s.Running →
    (s.lnk.linked = true → s.lnk.quiet.due = true →
      (s.lnk.quiet.count + 1 < 512 →
        exec .quietTimerExpiry s = .next (s.setLnk { s.lnk with quiet := s.lnk.quiet.add })) ∧
      (512 ≤ s.lnk.quiet.count + 1 → ∃ t, exec .quietTimerExpiry s = .next t ∧ LinkLost s t)) ∧
    (s.lnk.linked = false ∨ s.lnk.quiet.due = false → exec .quietTimerExpiry s = .next s) ∧
    (∀ w, s.lnk.linked = true → s.lnk.assembly = none → goodWord w = false → 64 ≤ s.lnk.loss + 1 →
      ∃ t, exec (.linkWord w) s = .next t ∧ LinkLost s t) ∧
    (s.lnk.linked = false → s.lnk.windowTimer.due = true →
      (s.lnk.windowTimer.count + 1 < 2048 → exec .searchWindowEnd s
        = .next (s.setLnk { s.lnk with windowTimer := s.lnk.windowTimer.add })) ∧
      (2048 ≤ s.lnk.windowTimer.count + 1 → s.lnk.window < 3 → exec .searchWindowEnd s
        = .next (s.setLnk { s.lnk with
            rate := s.lnk.rate + 1, window := s.lnk.window + 1, windowTimer := Timer.start,
            lockRun := 0 })) ∧
      (2048 ≤ s.lnk.windowTimer.count + 1 → 3 ≤ s.lnk.window →
        let again := s.setLnk { s.lnk with
          rate := 0, window := 0, windowTimer := Timer.start, lockRun := 0 }
        ∃ t, exec .searchWindowEnd s = .next t ∧ ConditionReported .linkLost again t)) ∧
    (s.lnk.linked = true ∨ s.lnk.windowTimer.due = false → exec .searchWindowEnd s = .next s)

/-- TRANSMITTER_FREE: what was being sent leaves its queue, and the arbiter takes the Forward Queue's
eligible head, or the Reply Queue's head when the wait count is 4 or no frame is to be forwarded, or an
idle word; while SEARCHING an idle word only. Every word goes out with its marker and odd parity, the
header's marker set (R1, R9, R10, R11, R12). -/
def Obligations.ArbiterDecides : Prop :=
  ∀ s : State, s.Running → ∃ t, exec .transmitterFree s = .next t ∧
    t.lnk.forward = (if s.lnk.transmit = .forwarding then s.lnk.forward.tail else s.lnk.forward) ∧
    t.lnk.replies = (if s.lnk.transmit = .replying then s.lnk.replies.tail else s.lnk.replies) ∧
    t.lnk.txRate = s.lnk.lockRate ∧ Frame [.lnk, .replies] s t ∧
    let idle := t.lnk.transmit = .idle ∧ t.lnk.toSend = [wordOnLink true (headerWord 0 15 0 0)] ∧
      t.lnk.waitCount = s.lnk.waitCount
    (s.lnk.linked = false → idle) ∧
    (s.lnk.linked = true →
      (t.lnk.eligible = none → t.lnk.replies = [] → idle) ∧
      (∀ ws r q, t.lnk.replies = r :: q → (t.lnk.eligible = none ∨
          (t.lnk.eligible = some ws ∧ s.lnk.waitCount = 4)) →
        t.lnk.transmit = .replying ∧ t.lnk.toSend = frameOnLink r ∧ t.lnk.waitCount = 0) ∧
      (∀ ws, t.lnk.eligible = some ws → t.lnk.replies = [] ∨ s.lnk.waitCount ≠ 4 →
        t.lnk.transmit = .forwarding ∧ t.lnk.toSend = frameOnLink ws ∧
        t.lnk.waitCount = if t.lnk.replies = [] then s.lnk.waitCount else s.lnk.waitCount + 1))

/-! ### Requests and tables -/

/-- UNKNOWN_KIND: a taken frame of an unassigned kind counts one in Unknown Kinds, and is answered
UNKNOWN_KIND when it is addressed, with the received Kind as its echo; without a place for its reply it also
counts one Reply Drop (R7, R10, R28, R29). That the echo is the Kind for a frame of Length 0 too is the
model's reading (assumption log 36). -/
def Obligations.UnknownKindsAreCounted : Prop :=
  ∀ (h : Head) (kind : UnassignedKind) (s : State), s.Running →
    (s.RoomFor h → ∃ t, exec (.unknownKind h kind) s = .next t ∧
      t.cnt = { s.cnt with unknownKinds := s.cnt.unknownKinds + 1 } ∧
      Replied h .unknownKind (unassignedKindCode kind) [] [] s t ∧ Frame [.replies, .place, .cnt] s t) ∧
    (¬ s.RoomFor h → exec (.unknownKind h kind) s = .next (s.setCnt
      { s.cnt with unknownKinds := s.cnt.unknownKinds + 1, replyDrops := s.cnt.replyDrops + 1 }))

/-- An addressed WRITE, READ or COMMAND that finds the Reply Queue full is not carried out and counts one
Reply Drop (R10, R28); in INITIALIZING each of them but a READ of the Status table is answered NOT_READY
(R26). -/
def Obligations.RequestsAreTurnedAway : Prop :=
  ∀ (c : Instr) (h : Head) (payload : List Word) (s : State), s.Running →
    assignedRequest c = some (h, payload) →
    (h.sent = .addressed → 4 ≤ s.lnk.replies.length →
      exec c s = .next (s.setCnt { s.cnt with replyDrops := s.cnt.replyDrops + 1 })) ∧
    (s.req.opState = .initializing → s.RoomFor h →
      (c = .read h payload → payload = [] ∨ requestHigh payload ≠ 15) →
      RequestRefused c h payload .notReady s)

/-- The checks of a WRITE, in the order of R31: the first that fails gives the status, and the WRITE
changes nothing. What check 7 asks of an entry of each table is said first: its field values are in range,
and no bit is set that no field covers. -/
def Obligations.WritesAreChecked : Prop :=
  (∀ (i : Nat) (w v : Word),
    let n := w.toNat
    let ok := fun table => entryOk table i [w] = true
    (ok .keyMap ↔ n < 256 ∧ ((bitsOf w 7 6 ≤ 1 ∧ bitsOf w 5 0 ≤ 60) ∨
      (bitsOf w 7 6 = 2 ∧ bitsOf w 5 0 ≤ 24) ∨ (bitsOf w 7 6 = 3 ∧ bitsOf w 5 0 = 0))) ∧
    (ok .contactProfile ↔ n ≤ 255) ∧ (ok .wheelAssignment ↔ n ≤ 96) ∧
    (entryOk .wheelPitch i [w, v] = true ↔ n * 65536 + v.toNat ≤ 8388607) ∧
    (ok .wheelVoicing ↔ n < 4096) ∧ (ok .busLoadCurve ↔ n ≤ 256) ∧ (ok .drawbarLaw ↔ n ≤ 256) ∧
    (ok .presets ↔ n ≤ 8) ∧ (ok .expressionCurve ↔ n ≤ 256) ∧
    (ok .faultConfiguration ↔ n < 64 ∧ bitsOf w 3 2 = 0 ∧
      (4 ≤ i → (bitsOf w 1 0 = 2 ∨ bitsOf w 1 0 = 3) ∧ bitsOf w 5 4 = 0)) ∧
    (i < 4 → (ok .linkSettings ↔ (i = 0 → n ≤ 30) ∧ (i = 1 → n ≤ 7) ∧
      (i = 2 → bitsOf w 14 3 = 0 ∧ 1 ≤ bitsOf w 2 0) ∧ (i = 3 → n ≤ 255))) ∧
    (i < 16 → (ok .playSettings ↔ (i ≤ 3 → n ≤ 15) ∧ (i = 4 ∨ i = 5 → 1 ≤ n) ∧ (i = 6 → n ≤ 256) ∧
      (i = 8 ∨ i = 9 ∨ i = 10 → n ≤ 1008) ∧ (i = 11 ∨ i = 13 → 1 ≤ n ∧ n ≤ 255) ∧
      (i = 12 → n ≤ 1) ∧ (14 ≤ i → n = 0))) ∧
    (i < 16 → (ok .rotorSettings ↔ (i = 0 ∨ i = 1 ∨ i = 4 ∨ i = 5 → n ≤ 1500) ∧
      (i = 2 ∨ i = 3 ∨ i = 6 ∨ i = 7 → 1 ≤ n ∧ n ≤ 1500) ∧ (11 ≤ i ∧ i ≤ 14 → n ≤ 256) ∧
      (i = 15 → n ≤ 1))) ∧
    (i < 12 → (ok .outputSettings ↔ (i % 3 = 0 → bitsOf w 7 3 = 0) ∧ (i % 3 = 1 → n < 1024) ∧
      (i % 3 = 2 → bitsOf w 2 0 ≤ 4)))) ∧
  ∀ (c : Instr) (h : Head) (payload : List Word) (s : State), s.Ready → s.RoomFor h →
    writeRequest c = some (h, payload) →
    let refused := fun status => RequestRefused c h payload status s
    let count := requestLow payload
    let start := (payload.getD 1 0).toNat
    (payload.length < 2 → refused .badLength) ∧
    (2 ≤ payload.length → tableOfId (requestHigh payload) = none → refused .badTable) ∧
    ∀ table, 2 ≤ payload.length → tableOfId (requestHigh payload) = some table →
      (count = 0 ∨ payload.length ≠ 2 + count * tableWidth table → refused .badLength) ∧
      (count ≠ 0 → payload.length = 2 + count * tableWidth table →
        (tableWritable table = false → refused .readOnly) ∧
        (tableWritable table = true →
          (table = .wheelPitch → s.req.opState = .playing → refused .wrongState) ∧
          ((table = .wheelPitch → s.req.opState ≠ .playing) →
            (tableEntries table < start + count → refused .badIndex) ∧
            (start + count ≤ tableEntries table →
              ((∃ j < count, entryOk table (start + j) (dataWords table payload j) = false) →
                refused .badValue) ∧
              ((∀ j < count, entryOk table (start + j) (dataWords table payload j) = true) →
                (table = .keyMap → ∀ j < count, ∀ k,
                  keyOfWord (wordAt s.tab.keyMap (start + j)) = some k → s.keyState k ≠ .up →
                    refused .inUse) ∧
                ((table = .keyMap → ∀ j < count, ∀ k,
                    keyOfWord (wordAt s.tab.keyMap (start + j)) = some k → s.keyState k = .up) →
                  ∀ r, s.req.cursor = some r → r.table = table → refused .busy))))))

/-- A WRITE that passes its checks, of a table without behaviour of its own, stores its entries, is
answered OK, and does nothing else: WRITE, WRITE_KEY_MAP, WRITE_WHEEL_PITCH (R31, R32, R46, R95). A WRITE of
Play Settings does the same; where it writes the retry time, entry 13, the eight retry timers first take
their tick, so that the new time counts from the next tick on (R183; the model's reading, assumption
log 20). A NOTICE that those ticks make due stands before the reply, whose place is held (the model's reading,
assumption log 12). -/
def Obligations.PlainWritesAreStored : Prop :=
  ∀ (c : Instr) (h : Head) (payload : List Word) (table : TableId) (s : State), s.Ready → s.RoomFor h →
    writeRequest c = some (h, payload) → WritePasses table payload s →
    let stored := fun u : State => ∃ t, exec c s = .next t ∧ EntriesStored table payload u t ∧
      Replied h .ok (requestHigh payload) [] [] u t ∧ Frame [.replies, .place, .tab] u t
    (table.plain = true → stored s) ∧
    (table = .playSettings →
      (¬ writesEntry payload 13 → stored s) ∧
      (writesEntry payload 13 →
        let held := if h.sent = .addressed then s.setLnk { s.lnk with replyHeld := true } else s
        ∃ u, execAll ([FaultKind.linkLost, .consoleSilence, .engineShortage, .clockFallback, .scheduleFull,
            .outputLimit, .strayOverflow, .linkErrors].map Instr.retryExpiry) held = .next u ∧ stored u))

/-- A WRITE of Link Settings that passes its checks: WRITE_STATION_NUMBER, WRITE_SILENCE_WINDOW and
WRITE_NOTICE_SETTINGS. The new station number is in force for its reply (R18); a written silence window
restarts the timer, or with code 0 stops it and makes the condition absent (R187); the notice enable and
its settings act as R189 gives, and a NOTICE may fall due. The model looks at that once, after the last entry
(assumption log 13), and such a NOTICE stands before the reply, whose place is held (assumption log 12). -/
def Obligations.LinkSettingsAreWritten : Prop :=
  ∀ (c : Instr) (h : Head) (payload : List Word) (s : State), s.Ready → s.RoomFor h →
    writeRequest c = some (h, payload) → WritePasses .linkSettings payload s →
    ∃ t notices, exec c s = .next t ∧ EntriesStored .linkSettings payload s t ∧
      Replied h .ok 11 [] notices s t ∧
      t.station = bitsOf ((t.entryWords .linkSettings 0).headD 0) 4 0 ∧
      (writesEntry payload 1 →
        (bitsOf ((t.entryWords .linkSettings 1).headD 0) 2 0 ≠ 0 →
          t.flt.silence = Timer.start ∧ t.record .consoleSilence = s.record .consoleSilence) ∧
        (bitsOf ((t.entryWords .linkSettings 1).headD 0) 2 0 = 0 → t.flt.silence = Timer.stopped ∧
          t.record .consoleSilence
            = (s.record .consoleSilence).gone (s.faultMode .consoleSilence))) ∧
      (¬ writesEntry payload 1 → t.flt.silence = s.flt.silence ∧ t.flt.records = s.flt.records) ∧
      (∀ k, k ≠ .consoleSilence → t.record k = s.record k) ∧
      t.flt.fault = s.flt.fault ∧ t.flt.warn = s.flt.warn ∧
      (writesEntry payload 2 → t.noticeEnable = true → s.noticeEnable = false →
        NoticeChecked s.flt.pendingChanges Timer.start s.flt.waiting (s.NoticeRoom h.sent) notices t) ∧
      (writesEntry payload 2 → t.noticeEnable = false →
        notices = [] ∧ t.flt.pendingChanges = 0 ∧ t.flt.waiting = false ∧
          t.flt.noticeTimer = s.flt.noticeTimer) ∧
      (¬ writesEntry payload 2 ∨ (t.noticeEnable = true ∧ s.noticeEnable = true) →
        NoticeChecked s.flt.pendingChanges s.flt.noticeTimer s.flt.waiting (s.NoticeRoom h.sent)
          notices t) ∧
      Frame [.replies, .place, .tab, .flt] s t

/-- WRITE_ROTOR_SETTINGS that passes its checks: a rotor whose slow or fast speed the selector names is
retargeted to the written value; no other rotor changes (R155). -/
def Obligations.RotorSettingsAreWritten : Prop :=
  ∀ (c : Instr) (h : Head) (payload : List Word) (s : State), s.Ready → s.RoomFor h →
    writeRequest c = some (h, payload) → WritePasses .rotorSettings payload s →
    ∃ t, exec c s = .next t ∧ EntriesStored .rotorSettings payload s t ∧
      Replied h .ok 13 [] [] s t ∧ Frame [.replies, .place, .tab, .rot] s t ∧
      t.rot = { s.rot with horn := t.rot.horn, drum := t.rot.drum } ∧
      ∀ i : RotorId, let base := (match i with | .horn => 0 | .drum => 4)
        (s.rot.selector = .slow → writesEntry payload base →
          (s.rot.rotor i).Retargeted ((t.entryWords .rotorSettings base).headD 0).toNat .slow
            (t.rot.rotor i)) ∧
        (s.rot.selector = .fast → writesEntry payload (base + 1) →
          (s.rot.rotor i).Retargeted ((t.entryWords .rotorSettings (base + 1)).headD 0).toNat .fast
            (t.rot.rotor i)) ∧
        (¬ (s.rot.selector = .slow ∧ writesEntry payload base) →
          ¬ (s.rot.selector = .fast ∧ writesEntry payload (base + 1)) →
          t.rot.rotor i = s.rot.rotor i)

/-- WRITE_OUTPUT_SETTINGS that passes its checks: an output whose limiter mode the WRITE changes ends its
episode and starts its run afresh, and keeps its flag; nothing else of the outputs changes (R176). -/
def Obligations.OutputSettingsAreWritten : Prop :=
  ∀ (c : Instr) (h : Head) (payload : List Word) (s : State), s.Ready → s.RoomFor h →
    writeRequest c = some (h, payload) → WritePasses .outputSettings payload s →
    ∃ t, exec c s = .next t ∧ EntriesStored .outputSettings payload s t ∧
      Replied h .ok 14 [] [] s t ∧ Frame [.replies, .place, .tab, .out] s t ∧
      t.out = { s.out with limiters := t.out.limiters } ∧
      ∀ o : OutputId,
        (t.limitMode o ≠ s.limitMode o →
          t.out.limiters[o] = { s.out.limiters[o] with run := 0, episode := none }) ∧
        (t.limitMode o = s.limitMode o → t.out.limiters[o] = s.out.limiters[o])

/-- WRITE_FAULT_CONFIGURATION that passes its checks stores its entries; and where it carries one entry,
the record follows the new mode and action as R185 gives, a new RELEASE releases every key, and the
signals follow. (An ENGINE_SHORTAGE record under a new RELEASE is left to the law that the signals
follow: the release itself may make its condition absent.) That a whole WRITE counts at most one change is
the model's reading (assumption log 13), and so is that a NOTICE it makes due stands before the reply, whose
place is held (assumption log 12). -/
def Obligations.FaultConfigurationIsWritten : Prop :=
  ∀ (c : Instr) (h : Head) (payload : List Word) (s : State), s.Ready → s.RoomFor h →
    writeRequest c = some (h, payload) → WritePasses .faultConfiguration payload s →
    ∃ t notices, exec c s = .next t ∧ EntriesStored .faultConfiguration payload s t ∧
      Replied h .ok 10 [] notices s t ∧ t.Signalled ∧
      ChangeCounted (s.NoticeRoom h.sent) notices s t ∧
      Frame [.replies, .place, .tab, .flt, .hold, .mute, .key, .seq, .bus, .eng, .prc] s t ∧
      ∀ k : FaultKind, payload.getD 1 0 = wordOf k.toFin.val → requestLow payload = 1 →
        let r := s.record k
        let w := payload.getD 2 0
        let mode := faultModeOfWord w
        let action := faultActionOfWord w
        let changed := s.faultMode k ≠ mode
        let renewed := if r.held.isSome ∧ s.faultAction k ≠ action then some action else r.held
        let starts := changed ∧ (mode = .latched ∨ mode = .autoRetry) ∧ r.held = none ∧ r.present = true
        let releases := action = .release ∧ (starts ∨ (r.held.isSome ∧ s.faultAction k ≠ action ∧
          ¬ (changed ∧ (mode = .reportOnly ∨ mode = .disabled))))
        (¬ releases →
          (∀ j, j ≠ k → t.record j = s.record j) ∧
          Frame [.replies, .place, .tab, .flt, .hold, .mute] s t) ∧
        (releases → Released allManuals s t) ∧
        (¬ releases ∨ k ≠ .engineShortage →
          (¬ changed → t.record k = { r with held := renewed }) ∧
          (changed → mode = .reportOnly →
            t.record k = { r with held := none, retry := Timer.stopped }) ∧
          (changed → mode = .disabled →
            t.record k = { r with held := none, retry := Timer.stopped, flag := false }) ∧
          (starts → t.record k
            = { r with flag := true, held := some action, retry := Timer.stopped }) ∧
          (changed → mode = .latched → r.held ≠ none →
            t.record k = { r with held := renewed, retry := Timer.stopped }) ∧
          (changed → mode = .autoRetry → r.held ≠ none →
            t.record k = { r with
              held := renewed, retry := if r.present then Timer.stopped else Timer.start }) ∧
          (changed → mode = .latched ∨ mode = .autoRetry → r.held = none → r.present = false →
            t.record k = r))

/-- READ: its checks in the order of R33, and its answer: the entries it names as they stand, in index
order; a broadcast READ is discarded (R7, R28, R33). In INITIALIZING this is asked of a READ of Status
only (R26). -/
def Obligations.ReadsAreAnswered : Prop :=
  ∀ (h : Head) (payload : List Word) (s : State), s.Running →
    (h.sent = .broadcast → exec (.read h payload) s = .next s) ∧
    (h.sent = .addressed → s.RoomFor h →
      s.req.opState ≠ .initializing ∨ (payload ≠ [] ∧ requestHigh payload = 15) →
      let refused := fun status => RequestRefused (.read h payload) h payload status s
      let count := requestLow payload
      let start := (payload.getD 1 0).toNat
      (payload.length ≠ 2 → refused .badLength) ∧
      (payload.length = 2 → tableOfId (requestHigh payload) = none → refused .badTable) ∧
      ∀ table, payload.length = 2 → tableOfId (requestHigh payload) = some table →
        (count = 0 ∨ 14 < count * tableWidth table → refused .badLength) ∧
        (count ≠ 0 → count * tableWidth table ≤ 14 →
          (tableEntries table < start + count → refused .badIndex) ∧
          (start + count ≤ tableEntries table →
            (∀ r, s.req.cursor = some r → r.table = table → refused .busy) ∧
            ((∀ r, s.req.cursor = some r → r.table ≠ table) →
              ∃ t, exec (.read h payload) s = .next t ∧ Frame [.replies, .place] s t ∧
                Replied h .ok (requestHigh payload)
                  ((List.range count).flatMap (fun j => s.entryWords table (start + j))) [] s t))))

/-- The entries of the seven read-only tables show the state field by field (R24, R37, R43, R59, R72,
R113, R133). The three words of a NOTICE show the notice state as it stands, in a frame with this station's
number, Kind 9 and Tag 0: the reported flags, then the limit flags and the actions in force, then FAULT, WARN
and the operating state, every other bit 0 (R2, R22, R188, R190). -/
def Obligations.ReadOnlyEntriesShowTheState : Prop :=
  ∀ s : State,
    let entry := fun table i => (s.entryWords table i).headD 0
    let second := fun table i => (s.entryWords table i).getD 1 0
    (entry .status 0 = wordOf (opStateCode s.req.opState) ∧
      entry .status 1 = wordOf (resetCauseCode s.req.resetCause) ∧
      bitsOf (entry .status 2) 15 8 = lastResultCode s.req.lastResult ∧
      bitsOf (entry .status 2) 7 0 = inFlightCode s.req.inFlight ∧
      (entry .status 3).getLsbD 15 = s.lnk.linked ∧ bitsOf (entry .status 3) 13 12 = s.lnk.rate.val ∧
      bitsOf (entry .status 3) 4 0 = s.station ∧
      entry .status 4 = wordOf s.eng.starved.length ∧
      entry .status 5 = wordOf s.seq.schedule.length ∧
      (entry .status 6).getLsbD 1 = s.flt.fault ∧ (entry .status 6).getLsbD 0 = s.flt.warn ∧
      (s.eng.lru.length ≤ 64 → s.eng.free.length ≤ 64 →
        bitsOf (entry .status 7) 15 8 = s.eng.lru.length ∧
        bitsOf (entry .status 7) 7 0 = s.eng.free.length)) ∧
    (∀ k : KeyId, bitsOf (entry .keyState k) 15 14 = keyStateCode (s.keyState k) ∧
      ∀ c : ContactId, (entry .keyState k).getLsbD c = (s.contact k c != .opened)) ∧
    (∀ e : EngineId, let r := s.eng.engines[e]
      bitsOf (entry .engineState e) 15 8 = wheelNumber r.wheel ∧
      (entry .engineState e).getLsbD 3 = r.dirty ∧
      bitsOf (entry .engineState e) 2 0 = engineStateCode r.state ∧
      (r.settle ≤ 256 → bitsOf (second .engineState e) 15 9 = wheelNumber r.next ∧
        bitsOf (second .engineState e) 8 0 = r.settle)) ∧
    (∀ i, entry .starvedWheels i = wordOf (wheelNumber s.eng.starved[i]?)) ∧
    (∀ i, s.seq.schedule[i]? = none → s.entryWords .contactSchedule i = [0xFFFF, 0xFFFF]) ∧
    (∀ i x, s.seq.schedule[i]? = some x → entry .contactSchedule i = x.due ∧
      bitsOf (second .contactSchedule i) 15 14 = (keyManual x.key).toFin.val ∧
      bitsOf (second .contactSchedule i) 13 8 = keyIndex x.key ∧
      bitsOf (second .contactSchedule i) 7 4 = x.contact.val ∧
      bitsOf (second .contactSchedule i) 3 0 = (if x.kind = .close then 0 else 1)) ∧
    (List.range 20).map (entry .counters) = [s.cnt.goodFrames, s.cnt.checkDrops, s.cnt.shortFrames,
      s.cnt.strayWords, s.cnt.forwardDrops, s.cnt.replyDrops, s.cnt.unknownKinds,
      s.cnt.strayKeys.zeroExtend 16, s.cnt.repeatKeys, s.cnt.refusedKeys, s.cnt.collapses, s.cnt.hits,
      s.cnt.cleanMisses, s.cnt.dirtyMisses, s.cnt.shortages, s.cnt.controlErrors,
      s.cnt.limitEpisodes[0], s.cnt.limitEpisodes[1], s.cnt.limitEpisodes[2], s.cnt.limitEpisodes[3]] ∧
    (∀ (m : Manual) (n : Fin 9), let b := (s.reg.manualBars m)[n]
      let w := entry .drawbarState (m.toFin.val * 9 + n.val)
      b.level ≤ 8 → (∀ l ∈ b.target, l ≤ 8) → bitsOf w 3 0 = b.level ∧
        w.getLsbD 7 = b.target.isSome ∧ bitsOf w 11 8 = b.target.getD 0) ∧
    let ws := s.noticeWords
    let inForce := fun a : Action => ∃ k, (s.record k).held = some a
    let bit := fun (i n : Nat) => (ws.getD i 0).getLsbD n
    ws.length = 3 ∧ (∀ k : FaultKind, bit 0 k.toFin.val = (s.record k).flag) ∧ bitsOf (ws.getD 0 0) 15 8 = 0 ∧
    (∀ o : OutputId, bit 1 (4 + o.val) = (s.out.limiters[o]).flag) ∧
    (bit 1 2 = true ↔ inForce .hold) ∧ (bit 1 1 = true ↔ inForce .release) ∧
    (bit 1 0 = true ↔ inForce .mute) ∧ bit 1 3 = false ∧ bitsOf (ws.getD 1 0) 15 8 = 0 ∧
    bit 2 15 = s.flt.fault ∧ bit 2 14 = s.flt.warn ∧ bitsOf (ws.getD 2 0) 13 2 = 0 ∧
    bitsOf (ws.getD 2 0) 1 0 = opStateCode s.req.opState ∧
    let frame := frameWords s.station 9 0 ws
    frame.length = 5 ∧ checkPasses frame = true ∧ headerStation (frame.headD 0) = s.station ∧
    headerKind (frame.headD 0) = 9 ∧ headerLength (frame.headD 0) = 3 ∧ headerTag (frame.headD 0) = 0 ∧
    (frame.drop 1).take 3 = ws

/-! ### Commands -/

/-- The checks of a COMMAND: its Length, then its argument, then what it asks of the state (R34 to R40).
What no row carries is refused too: a COMMAND without payload and a SELECT_PRESET of another Length than 2
with BAD_LENGTH, an unassigned code with UNKNOWN_COMMAND (R34), and a SELECT_PRESET whose mode field is 3 with
BAD_VALUE (R36). -/
def Obligations.CommandsAreChecked : Prop :=
  (∀ (c : Instr) (h : Head) (payload : List Word) (s : State), s.Ready → s.RoomFor h →
    commandRequest c = some (h, payload) →
    let refused := fun status => RequestRefused c h payload status s
    let code := requestHigh payload
    let arg := requestLow payload
    let wanted := if code = 5 then 2 else 1
    (payload.length ≠ wanted → refused .badLength) ∧
    (payload.length = wanted →
      (code ≠ 3 → code ≠ 7 → arg ≠ 0 → refused .badValue) ∧
      (code = 3 → ¬ (1 ≤ arg ∧ arg ≤ 7) → refused .badValue) ∧
      (code = 1 → arg = 0 → s.req.opState = .standby → s.req.cursor ≠ none → refused .wrongState) ∧
      (code = 5 → bitsOf (payload.getD 1 0) 15 14 = 3 ∨ bitsOf (payload.getD 1 0) 7 0 ≠ 0 →
        refused .badValue) ∧
      (code = 6 → arg = 0 → s.req.inFlight ≠ none → refused .busy) ∧
      (code = 7 → s.req.opState = .playing → refused .wrongState) ∧
      (code = 7 → s.req.opState = .standby → ¬ (1 ≤ arg ∧ arg ≤ 14) → refused .badValue) ∧
      (code = 7 → s.req.opState = .standby → 1 ≤ arg → arg ≤ 14 → s.req.inFlight ≠ none →
        refused .busy))) ∧
  ∀ (h : Head) (payload : List Word) (s : State), s.Ready → s.RoomFor h →
    let code := requestHigh payload
    let refused := fun status => Replied h status code [] [] s (s.takeCommand h payload) ∧
      Frame [.replies, .place] s (s.takeCommand h payload)
    (payload = [] → refused .badLength) ∧
    (payload ≠ [] → code = 0 ∨ 9 < code → refused .unknownCommand) ∧
    (code = 5 → payload.length ≠ 2 → refused .badLength) ∧
    (code = 5 → payload.length = 2 → bitsOf (payload.getD 1 0) 9 8 = 3 → refused .badValue)

/-- PLAY in STANDBY makes the state PLAYING and STANDBY in PLAYING releases every key and makes it
STANDBY; the change is signalled to the outputs and counted as one change. In the state it asks for,
each is answered OK and changes nothing (R27, R35, R170). That a NOTICE the change makes due stands before
the reply, whose place is held, is the model's reading (assumption log 12). -/
def Obligations.PlayAndStandby : Prop :=
  ∀ (h : Head) (s : State), s.Ready → s.RoomFor h →
    (s.req.opState = .playing → ∃ t, exec (.play h 0 []) s = .next t ∧
      Replied h .ok 1 [] [] s t ∧ Frame [.replies, .place] s t) ∧
    (s.req.opState = .standby → s.req.cursor = none → ∃ t notices, exec (.play h 0 []) s = .next t ∧
      t.req = { s.req with opState := .playing } ∧ t.out.muteRequest = s.inForce .mute ∧
      (s.Signalled → t.key.hold = s.key.hold ∧ t.flt.fault = s.flt.fault ∧ t.flt.warn = s.flt.warn) ∧
      t.flt.records = s.flt.records ∧ t.flt.silence = s.flt.silence ∧
      Replied h .ok 1 [] notices s t ∧ ChangeCounted (s.NoticeRoom h.sent) notices s t ∧
      Frame [.replies, .place, .req, .hold, .mute, .flt] s t) ∧
    (s.req.opState = .standby → ∃ t, exec (.standby h 0 []) s = .next t ∧
      Replied h .ok 2 [] [] s t ∧ Frame [.replies, .place] s t) ∧
    (s.req.opState = .playing → ∃ t notices, exec (.standby h 0 []) s = .next t ∧
      t.req = { s.req with opState := .standby } ∧ t.out.muteRequest = true ∧
      Released allManuals s t ∧ Replied h .ok 2 [] notices s t ∧
      ChangeCounted (s.NoticeRoom h.sent) notices s t ∧
      Frame [.replies, .place, .req, .hold, .mute, .flt, .key, .seq, .bus, .eng, .prc] s t)

/-- ALL_KEYS_UP and the release control bring every key of the manuals in their mask UP with its contacts
open and no entry in the schedule; each contact that was closed leaves its bus and starts its click, manual by
manual, in key and contact order (R70, R88); the other manuals' keys and entries stay as they are, and an UPPER
manual that was not all UP brings the percussion envelope to ARMED unless it is OFF; ENGINE_SHORTAGE goes
absent when the release empties the Starved Wheel List (R36, R55, R56, R58, R102, R110, R140). -/
def Obligations.ReleasesBringKeysUp : Prop :=
  ∀ (mask : BitVec 8) (s : State), s.Ready → 1 ≤ mask.toNat → mask.toNat ≤ 7 →
    let named := fun m : Manual => mask.getLsbD m.toFin.val = true
    let released := fun t : State =>
      Released (manualsOfMask mask.toNat) s t ∧ (∀ m, m ∈ manualsOfMask mask.toNat ↔ named m) ∧
      (∀ k : KeyId, ¬ named (keyManual k) → t.key.records[k] = s.key.records[k]) ∧
      (∀ k : KeyId, (t.key.records[k]).travel = (s.key.records[k]).travel) ∧
      t.seq.schedule = s.seq.schedule.filter (fun x => !mask.getLsbD (keyManual x.key).toFin.val) ∧
      t.prc = (if named .upper ∧ s.manualUp .upper = false ∧ s.prc.envelope ≠ .off then
          { s.prc with envelope := .armed, level := 0, halving := Timer.stopped }
        else s.prc) ∧
      ShortageEases s t
    (∃ t, exec (.controlRelease mask) s = .next t ∧ released t ∧
      Frame [.key, .seq, .bus, .eng, .prc, .flt] s t) ∧
    ∀ h : Head, s.RoomFor h → ∃ t, exec (.allKeysUp h mask []) s = .next t ∧ released t ∧
      Replied h .ok 3 [] [] s t ∧
      Frame [.replies, .place, .key, .seq, .bus, .eng, .prc, .flt] s t

/-- CLEAR_FAULTS clears the flag of every record whose condition is absent, ends such an episode in
LATCHED, clears every limit flag, and the signals follow; the clearing counts as one change if it changes
the notice state (R36, R177, R184, R189). That a NOTICE it makes due stands before the reply, whose place is
held, is the model's reading (assumption log 12). -/
def Obligations.FaultsAreCleared : Prop :=
  ∀ (h : Head) (s : State), s.Ready → s.RoomFor h →
    ∃ t notices, exec (.clearFaults h 0 []) s = .next t ∧
      (∀ k, t.record k = if (s.record k).present then s.record k
        else { s.record k with
          flag := false, held := if s.faultMode k = .latched then none else (s.record k).held }) ∧
      (∀ o : OutputId, t.out.limiters[o] = { s.out.limiters[o] with flag := false }) ∧
      t.out = { s.out with limiters := t.out.limiters, muteRequest := t.out.muteRequest } ∧
      t.flt.silence = s.flt.silence ∧ t.Signalled ∧ Replied h .ok 4 [] notices s t ∧
      ChangeCounted (s.NoticeRoom h.sent) notices s t ∧
      Frame [.replies, .place, .hold, .mute, .out, .flt] s t

/-- SELECT_PRESET: NOW gives the manual the preset's levels at once and GLIDE gives each drawbar whose
level differs its target; both drop a Pending Registration. NEXT_PLAY sets the Pending Registration. Each
ends the manual's targets, or sets them, and its glide timer runs exactly when a target is left (R123,
R124, R127). -/
def Obligations.PresetsAreSelected : Prop :=
  ∀ (h : Head) (manual : BitVec 2) (m : Manual) (p : BitVec 4) (s : State), s.Ready → s.RoomFor h →
    manualOfCode manual.toNat = some m →
    let level := fun n : Nat => s.presetLevel m p.toFin n
    let others := fun t : State => (∀ m', m' ≠ m → t.reg.manualBars m' = s.reg.manualBars m' ∧
        t.reg.glide[m'.toFin] = s.reg.glide[m'.toFin] ∧
        t.reg.pendingReg[m'.toFin] = s.reg.pendingReg[m'.toFin]) ∧
      t.reg.expression = s.reg.expression ∧ Replied h .ok 5 [] [] s t ∧
      Frame [.replies, .place, .reg] s t
    (∃ t, exec (.selectPresetNow h 0 manual p 0) s = .next t ∧ others t ∧
      (∀ n : Fin 9, (t.reg.manualBars m)[n] = ⟨level n, none⟩) ∧
      t.reg.glide[m.toFin] = Timer.stopped ∧ t.reg.pendingReg[m.toFin] = none) ∧
    (∃ t, exec (.selectPresetGlide h 0 manual p 0) s = .next t ∧ others t ∧
      (∀ n : Fin 9, let b := (s.reg.manualBars m)[n]
        (t.reg.manualBars m)[n] = ⟨b.level, if b.level = level n then none else some (level n)⟩) ∧
      ((∃ n : Fin 9, ((s.reg.manualBars m)[n]).level ≠ level n) →
        t.reg.glide[m.toFin] = Timer.start) ∧
      ((∀ n : Fin 9, ((s.reg.manualBars m)[n]).level = level n) →
        t.reg.glide[m.toFin] = Timer.stopped) ∧
      t.reg.pendingReg[m.toFin] = none) ∧
    (∃ t, exec (.selectPresetNextPlay h 0 manual p 0) s = .next t ∧ others t ∧
      (∀ n : Fin 9, (t.reg.manualBars m)[n] = ⟨((s.reg.manualBars m)[n]).level, none⟩) ∧
      t.reg.glide[m.toFin] = Timer.stopped ∧ t.reg.pendingReg[m.toFin] = some p.toFin)

/-- FLUSH_ENGINES, with no long command in flight, is accepted: every IDLE engine leaves the LRU List,
tail first; a clean one becomes FREE and a dirty one writes its wheel back without a next wheel. The
command is in flight while such a write-back is under way, and DONE at once without one (R38, R39, R111,
R112). -/
def Obligations.EnginesAreFlushed : Prop :=
  ∀ (h : Head) (s : State), s.Ready → s.RoomFor h → s.req.inFlight = none → s.eng.Listed →
    (∀ e ∈ s.eng.lru, (s.eng.engines[e]).wheel ≠ none) →
    ∃ t, exec (.flushEngines h 0 []) s = .next t ∧ Replied h .accepted 6 [] [] s t ∧
      Frame [.replies, .place, .req, .eng] s t ∧ t.eng.lru = [] ∧ t.eng.starved = s.eng.starved ∧
      t.eng.free = s.eng.free ++ s.eng.lru.reverse.filter (fun e => !(s.eng.engines[e]).dirty) ∧
      t.eng.queue = s.eng.queue ++ (s.eng.lru.reverse.filter (fun e => (s.eng.engines[e]).dirty)).map
        (fun e => ⟨e, .writeBack, ((s.eng.engines[e]).wheel).getD 0⟩) ∧
      (∀ e : EngineId, e ∉ s.eng.lru → t.eng.engines[e] = s.eng.engines[e]) ∧
      (∀ e ∈ s.eng.lru, ∀ w, (s.eng.engines[e]).wheel = some w → (t.eng.store[w]).bound = none ∧
        t.eng.engines[e] = (if (s.eng.engines[e]).dirty then
            { s.eng.engines[e] with state := .writingBack, settle := 0, next := none }
          else { s.eng.engines[e] with
            state := .free, wheel := none, dirty := false, settle := 0, next := none })) ∧
      t.req = (if t.eng.flushing then { s.req with inFlight := some .flushEngines }
        else { s.req with inFlight := none, lastResult := .done })

/-- RESTORE_FACTORY of a writable table in STANDBY with no long command in flight is accepted and
restores nothing yet; each RESTORE_STEP after its tick began gives eight more entries their factory
contents, and after the last one the command is DONE (R38, R40). A restored entry acts as a written one: of a
table whose entries act on the state, the step comes to what a broadcast WRITE of the same entries with their
factory contents does once the table is free, with the station number, which a WRITE cannot make 31, put in
its place first (R18, R40, R155, R176, R185, R187, R189). That the entries of one step make one notice change
at most is the model's choice (assumption log 13), and that a retry time counts from the next tick is
assumption log 20. -/
def Obligations.TablesAreRestored : Prop :=
  (∀ (h : Head) (arg : BitVec 8) (table : TableId) (s : State), s.Ready → s.RoomFor h →
    s.req.opState = .standby → tableOfId arg.toNat = some table → tableWritable table = true →
    s.req.inFlight = none → ∃ t, exec (.restoreFactory h arg []) s = .next t ∧
      t.req = { s.req with inFlight := some .restoreFactory, cursor := some ⟨table, 0, true⟩ } ∧
      Replied h .accepted 7 [] [] s t ∧ Frame [.replies, .place, .req] s t) ∧
  ∀ s : State, s.Running →
    (s.req.cursor = none → exec .restoreStep s = .next s) ∧
    ∀ r, s.req.cursor = some r → tableWritable r.table = true →
      (r.ticked = true → exec .restoreStep s = .next s) ∧
      (r.ticked = false → ∃ t, exec .restoreStep s = .next t ∧
        (∀ i, r.index ≤ i → i < r.index + 8 → i < tableEntries r.table →
          t.entryWords r.table i = factoryEntry r.table s.lnk.strap i) ∧
        (∀ u i, tableWritable u = true → u ≠ r.table ∨ i < r.index ∨ r.index + 8 ≤ i →
          t.entryWords u i = s.entryWords u i) ∧
        t.req = (if tableEntries r.table ≤ r.index + 8 then
            { s.req with cursor := none, inFlight := none, lastResult := .done }
          else { s.req with cursor := some ⟨r.table, r.index + 8, true⟩ }) ∧
        (r.table.plain = true → Frame [.req, .tab] s t) ∧
        (∀ code, s.Ready → r.index < tableEntries r.table → r.table.plain = false →
          tableOfId code = some r.table →
          let free := s.setReq { s.req with cursor := none }
          let numbered := if r.table = .linkSettings ∧ r.index = 0 then free.setTab { s.tab with
              linkSettings := s.tab.linkSettings.set 0 (s.lnk.strap.zeroExtend 16) } else free
          let first := if r.table = .linkSettings ∧ r.index = 0 then 1 else r.index
          let count := min (r.index + 8) (tableEntries r.table) - first
          let contents := (List.range count).flatMap (fun j => factoryEntry r.table s.lnk.strap (first + j))
          ∃ u, exec (.write ⟨.broadcast, 0⟩
              (writePayload code (BitVec.ofNat 8 count) (wordOf first) contents)) numbered = .next u ∧
            t = u.setReq t.req) ∧
        Frame [.req, .tab, .rot, .out, .replies, .hold, .mute, .key, .seq, .bus, .eng, .prc, .flt] s t)

/-- CLEAR_COUNTERS sets all twenty counters to 0 and touches nothing else (R37). -/
def Obligations.CountersAreCleared : Prop :=
  ∀ (h : Head) (s : State), s.Ready → s.RoomFor h → ∃ t, exec (.clearCounters h 0 []) s = .next t ∧
    (∀ i < 20, t.entryWords .counters i = [0]) ∧ t.cnt.limitEpisodes = Vector.replicate 4 0 ∧
    Replied h .ok 8 [] [] s t ∧ Frame [.replies, .place, .cnt] s t

/-- SOFT_RESET: its reply is queued, a long command in flight is abandoned and the table under restore
becomes factory, the part is in STANDBY with the cause SOFT, and each block takes its soft reset (R41,
R57, R74, R92, R116, R134, R150, R166, R178, R191). The rotors and the silence timer go on as they were; but
Rotor Settings under restore retarget the rotors as written speeds do (R155, R166), and a restored silence
window code starts its timer as a written one does (R40, R187). That a standing LINK_LOST or CLOCK_FALLBACK is raised
again from the record, and no notice made, is the model's reading (assumption log 15); the mark that the
tick's port samples, if still to come, are formed without limiting (R178) is the model's (assumption
log 38). -/
def Obligations.SoftReset : Prop :=
  ∀ (h : Head) (s : State), s.Ready → s.RoomFor h → ∃ t, exec (.softReset h 0 []) s = .next t ∧
    t.lnk.replies = s.lnk.replies ++ (match h.sent with
      | .addressed => [s.replyWords h.tag .ok 9 []]
      | .broadcast => []) ∧
    t.req = { s.req with
      opState := .standby, inFlight := none, cursor := none, resetCause := .soft,
      lastResult := if s.req.inFlight = none then s.req.lastResult else .abandoned } ∧
    (∀ r, s.req.cursor = some r → ∀ i < tableEntries r.table, tableWritable r.table = true →
      t.entryWords r.table i = factoryEntry r.table s.lnk.strap i) ∧
    (∀ u i, tableWritable u = true → (∀ r, s.req.cursor = some r → u ≠ r.table) →
      t.entryWords u i = s.entryWords u i) ∧
    (∀ k, t.keyState k = .up ∧ (t.key.records[k]).travel = 0 ∧ ∀ c, t.contact k c = .opened) ∧
    t.seq.schedule = [] ∧ (∀ row w, t.bus.countOf row w = 0) ∧ (∀ w : Wheel, t.bus.demand[w] = 0) ∧
    t.bus.clicks = [] ∧ t.eng = { EngineCache.reset with wrap := s.eng.wrap } ∧
    (∀ m, ∀ n : Fin 9, (t.reg.manualBars m)[n] = ⟨((s.reg.manualBars m)[n]).level, none⟩) ∧
    (∀ m : Manual, t.reg.glide[m.toFin] = Timer.stopped ∧ t.reg.pendingReg[m.toFin] = none) ∧
    t.reg.expression = s.reg.expression ∧
    t.prc = { s.prc with
      envelope := if s.prc.enable then .armed else .off, level := 0, halving := Timer.stopped } ∧
    (∀ o : OutputId, t.out.limiters[o] = ⟨0, none, false⟩) ∧
    t.out = { s.out with limiters := t.out.limiters, muteRequest := true, unlimited := true } ∧
    (∀ k, k ≠ .linkLost → k ≠ .clockFallback → t.record k = FaultRecord.clear) ∧
    (∀ k, k = .linkLost ∨ k = .clockFallback →
      (t.record k).present = (s.record k).present ∧
      (t.record k).flag = ((s.record k).present && t.faultMode k != .disabled) ∧
      (t.record k).held = (if (s.record k).present ∧ (t.faultMode k).holds then
        some (t.faultAction k) else none) ∧ (t.record k).retry = Timer.stopped) ∧
    t.flt.pendingChanges = 0 ∧ t.flt.noticeTimer = Timer.start ∧ t.flt.waiting = false ∧ t.Signalled ∧
    (∀ i < 20, t.entryWords .counters i = [0]) ∧
    ((∀ r, s.req.cursor = some r → r.table ≠ .rotorSettings) → t.rot = s.rot) ∧
    (∀ r, s.req.cursor = some r → r.table = .rotorSettings →
      t.rot = { s.rot with horn := t.rot.horn, drum := t.rot.drum } ∧
      ∀ i : RotorId, let base := (match i with | .horn => 0 | .drum => 4)
        (s.rot.selector = .slow → (s.rot.rotor i).Retargeted
          ((t.entryWords .rotorSettings base).headD 0).toNat .slow (t.rot.rotor i)) ∧
        (s.rot.selector = .fast → (s.rot.rotor i).Retargeted
          ((t.entryWords .rotorSettings (base + 1)).headD 0).toNat .fast (t.rot.rotor i)) ∧
        (s.rot.selector = .stop → t.rot.rotor i = s.rot.rotor i)) ∧
    ((∀ r, s.req.cursor = some r → r.table ≠ .linkSettings) → t.flt.silence = s.flt.silence) ∧
    (∀ r, s.req.cursor = some r → r.table = .linkSettings → t.flt.silence = Timer.start) ∧
    Frame [.replies, .place, .req, .tab, .key, .hold, .seq, .bus, .eng, .reg, .prc, .rot, .out, .mute,
      .flt, .cnt] s t

/-! ### Keys, contacts and engines -/

/-- A key event outside PLAYING, and a key-down while HOLD is set, counts one Refused Key and does
nothing else (R44, R49); an UNMAPPED one counts one Stray Key, and the 256th raises STRAY_OVERFLOW as an
occurrence (R47, R181). -/
def Obligations.KeysAreRefusedOrStray : Prop :=
  ∀ (source : BitVec 2) (raw : BitVec 7) (travel : BitVec 6) (s : State), s.Running →
    (∀ c : Instr, c = .keyDown source raw travel ∨ c = .keyUp source raw travel →
      (s.req.opState ≠ .playing →
        exec c s = .next (s.setCnt { s.cnt with refusedKeys := s.cnt.refusedKeys + 1 })) ∧
      (s.req.opState = .playing → s.mappedKey source raw = none →
        let counted := s.setCnt { s.cnt with strayKeys := s.cnt.strayKeys + 1 }
        (s.cnt.strayKeys ≠ 255 → exec c s = .next counted) ∧
        (s.cnt.strayKeys = 255 → ∃ t, exec c s = .next t ∧ EventReported .strayOverflow counted t))) ∧
    (∀ k, s.req.opState = .playing → s.mappedKey source raw = some k → s.key.hold = true →
      exec (.keyDown source raw travel) s
        = .next (s.setCnt { s.cnt with refusedKeys := s.cnt.refusedKeys + 1 }))

/-- A repeat counts in Repeat Keys and has no other effect (R52). -/
def Obligations.RepeatsChangeNothing : Prop :=
  ∀ (source : BitVec 2) (raw : BitVec 7) (travel : BitVec 6) (k : KeyId) (s : State), s.Playing →
    s.mappedKey source raw = some k →
    let repeated := s.setCnt { s.cnt with repeatKeys := s.cnt.repeatKeys + 1 }
    (s.key.hold = false → s.keyState k = .descending ∨ s.keyState k = .down →
      exec (.keyDown source raw travel) s = .next repeated) ∧
    (s.keyState k = .ascending ∨ s.keyState k = .up →
      exec (.keyUp source raw travel) s = .next repeated)

/-- KEY_DOWN of a key that is UP or ASCENDING: the key's pending OPENs leave, each open contact gets a CLOSE
at its offset, closes at once where the offset is 0, or closes at once for want of a place, and the key is
DESCENDING or DOWN (R50, R62 to R65). Each new entry stands behind every entry due no later and in front of
every entry due later (R63). Each contact that closes at once binds its wheel and counts on its bus, CP on BP,
and starts a positive click in contact order, the newest 32 held (R68, R69, R77, R88). An event that collapses counts one in Collapses and raises SCHEDULE_FULL (R66). A
key-down on a manual that is all UP applies a Pending Registration and starts an ARMED envelope of UPPER; a CP
closure strikes an envelope that waits (R49, R58, R128, R137, R138). All this is asked where no fault an event
can raise is set to release the keys; where one is, either all this holds or every key has been released: the
release ends the event (assumption log 14). -/
def Obligations.KeyDownMovesTheKey : Prop :=
  ∀ (source : BitVec 2) (raw : BitVec 7) (travel : BitVec 6) (k : KeyId) (s : State), s.Playing →
    s.mappedKey source raw = some k → s.key.hold = false →
    s.keyState k = .up ∨ s.keyState k = .ascending →
    let m := keyManual k
    let phrase := s.keyState k = .up ∧ s.manualUp m = true
    let placed := s.scheduled k travel .close
    let collapsed := s.collapsed k travel .close
    ∃ t, exec (.keyDown source raw travel) s = .next t ∧
      Frame [.reg, .cnt, .replies, .hold, .mute, .key, .seq, .bus, .eng, .prc, .flt] s t ∧
      (phrase → ∀ p, s.reg.pendingReg[m.toFin] = some p →
        (∀ n : Fin 9, (t.reg.manualBars m)[n] = ⟨s.presetLevel m p n, none⟩) ∧
        t.reg.pendingReg[m.toFin] = none) ∧
      (¬ phrase ∨ s.reg.pendingReg[m.toFin] = none → t.reg = s.reg) ∧
      let moved :=
        (t.key.records[k]).travel = travel ∧
        (∀ j : KeyId, j ≠ k → t.key.records[j] = s.key.records[j]) ∧
        t.keyState k = (if placed = [] ∧ (∀ x ∈ s.seq.schedule, x.key = k → x.kind = .open_) then .down
          else .descending) ∧
        t.seq.schedule = s.scheduleAfter k travel .close ∧
        t.bus.clicks = clicksWith s.bus.clicks
          (((s.atOnce k travel .close).filter (fun c => (s.assignedWheel k c).isSome)).map
            (fun _ => ⟨m, s.seq.tickCount, true⟩)) ∧
        t.entriesOfOthers k = s.entriesOfOthers k ∧
        (∀ x, x.key = k → (x ∈ t.seq.schedule ↔ (x ∈ s.seq.schedule ∧ x.kind = .close) ∨
          (x.kind = .close ∧ x.contact ∈ placed ∧
            x.due = s.seq.tickCount + wordOf (s.offsetOf k travel .close x.contact)))) ∧
        (∀ c ∈ contactsOf k, t.contact k c =
          if s.contact k c = .opened ∧ c ∉ placed then .closed (s.assignedWheel k c)
          else s.contact k c) ∧
        (∀ c ∈ contactsOf k, ∀ w, t.bus.countOf (contactRow m c) w = s.bus.countOf (contactRow m c) w +
          (if s.contact k c = .opened ∧ t.contact k c = .closed (some w) then 1 else 0)) ∧
        (∀ row w, (∀ c ∈ contactsOf k, row ≠ contactRow m c) → t.bus.countOf row w = s.bus.countOf row w) ∧
        t.cnt.collapses = s.cnt.collapses + (if collapsed = [] then 0 else 1) ∧
        t.record .scheduleFull = (if collapsed = [] then s.record .scheduleFull
          else (s.record .scheduleFull).occurred (s.faultMode .scheduleFull)
            (s.faultAction .scheduleFull)) ∧
        t.prc = (let begun := if m = .upper ∧ phrase then s.prc.begun else s.prc
          if m = .upper ∧ s.contact k 9 = .opened ∧ t.contact k 9 ≠ .opened then begun.struck else begun)
      (s.KeysNotReleased → moved) ∧ (moved ∨ ∀ m, t.ManualReleased m)

/-- KEY_UP of a key that is DOWN or DESCENDING: the key's pending CLOSEs leave, each closed contact gets an
OPEN at its offset, opens at once where the offset is 0, or opens at once for want of a place, and the key is
ASCENDING or UP (R51, R62 to R65). Each new entry stands behind every entry due no later and in front of every
entry due later (R63). Each contact that opens at once takes its count from the bus and starts a negative click,
in contact order, the newest 32 held (R70, R77, R88). An event that collapses counts one in Collapses and raises SCHEDULE_FULL (R66). When every UPPER key is then UP
the percussion envelope is ARMED unless it is OFF (R58, R140). Where SCHEDULE_FULL is set to release the keys,
either all this holds or every key has been released (assumption log 14). -/
def Obligations.KeyUpMovesTheKey : Prop :=
  ∀ (source : BitVec 2) (raw : BitVec 7) (travel : BitVec 6) (k : KeyId) (s : State), s.Playing →
    s.mappedKey source raw = some k → s.keyState k = .down ∨ s.keyState k = .descending →
    let m := keyManual k
    let placed := s.scheduled k travel .open_
    let collapsed := s.collapsed k travel .open_
    ∃ t, exec (.keyUp source raw travel) s = .next t ∧
      Frame [.cnt, .replies, .hold, .mute, .key, .seq, .bus, .eng, .prc, .flt] s t ∧
      let moved :=
        (t.key.records[k]).travel = travel ∧
        (∀ j : KeyId, j ≠ k → t.key.records[j] = s.key.records[j]) ∧
        t.keyState k = (if placed = [] ∧ (∀ x ∈ s.seq.schedule, x.key = k → x.kind = .close) then .up
          else .ascending) ∧
        t.seq.schedule = s.scheduleAfter k travel .open_ ∧
        t.bus.clicks = clicksWith s.bus.clicks
          (s.openingClicks ((s.atOnce k travel .open_).map (fun c => (k, c)))) ∧
        t.entriesOfOthers k = s.entriesOfOthers k ∧
        (∀ x, x.key = k → (x ∈ t.seq.schedule ↔ (x ∈ s.seq.schedule ∧ x.kind = .open_) ∨
          (x.kind = .open_ ∧ x.contact ∈ placed ∧
            x.due = s.seq.tickCount + wordOf (s.offsetOf k travel .open_ x.contact)))) ∧
        (∀ c ∈ contactsOf k, t.contact k c =
          if s.contact k c ≠ .opened ∧ c ∉ placed then .opened else s.contact k c) ∧
        (∀ c ∈ contactsOf k, ∀ w, t.bus.countOf (contactRow m c) w = s.bus.countOf (contactRow m c) w -
          (if s.contact k c = .closed (some w) ∧ t.contact k c = .opened then 1 else 0)) ∧
        (∀ row w, (∀ c ∈ contactsOf k, row ≠ contactRow m c) → t.bus.countOf row w = s.bus.countOf row w) ∧
        t.cnt = { s.cnt with collapses := s.cnt.collapses + (if collapsed = [] then 0 else 1) } ∧
        t.record .scheduleFull = (if collapsed = [] then s.record .scheduleFull
          else (s.record .scheduleFull).occurred (s.faultMode .scheduleFull)
            (s.faultAction .scheduleFull)) ∧
        t.prc = (if m = .upper ∧ t.manualUp .upper = true then s.prc.rearmed else s.prc) ∧
        (collapsed = [] → ShortageEases s t ∧ Frame [.key, .seq, .bus, .eng, .prc, .flt] s t)
      (s.faultAction .scheduleFull ≠ .release → moved) ∧ (moved ∨ ∀ m, t.ManualReleased m)

/-- SCHEDULE_ENTRY_DUE: the head of the schedule, when it is due at this tick, leaves it and its contact
closes or opens: a CLOSE binds the assigned wheel, adds one to its count and demand and starts a positive
click, and CP's strikes an envelope that waits; an OPEN takes one from the bound wheel's count and demand and
starts a negative click. A demand that rises from 0 or falls to 0 goes to the Engine Cache at once. After its
last entry the key is DOWN or UP, and an UPPER manual then all UP arms the envelope (R53, R58, R67 to R70, R77
to R79, R88, R100 to R102, R110, R115, R138, R140). Where a CLOSE raises ENGINE_SHORTAGE and that is set to
release the keys, every key has been released instead (assumption log 14). -/
def Obligations.DueEntryIsApplied : Prop :=
  ∀ s : State, s.Running →
    (s.seq.schedule = [] → exec .scheduleEntryDue s = .next s) ∧
    ∀ x rest, s.seq.schedule = x :: rest →
      let m := keyManual x.key
      let row := contactRow m x.contact
      let last := ∀ y ∈ rest, y.key ≠ x.key
      let bound := s.assignedWheel x.key x.contact
      let clicked := fun positive : Bool =>
        let l := s.bus.clicks ++ [⟨m, s.seq.tickCount, positive⟩]
        l.drop (l.length - 32)
      let counted := fun (t : State) (w : Wheel) (n d : Nat) => t.bus.countOf row w = n ∧
        t.bus.demand[w] = d ∧ (∀ row' w', row' ≠ row ∨ w' ≠ w →
          t.bus.countOf row' w' = s.bus.countOf row' w') ∧
        ∀ w' : Wheel, w' ≠ w → t.bus.demand[w'] = s.bus.demand[w']
      let sameCache := fun t v : State => t.eng = v.eng ∧ t.cnt = v.cnt ∧ t.flt = v.flt ∧ t.lnk = v.lnk ∧
        t.out = v.out
      (x.due ≠ s.seq.tickCount → exec .scheduleEntryDue s = .next s) ∧
      (x.due = s.seq.tickCount → ∃ t, exec .scheduleEntryDue s = .next t ∧
        Frame [.cnt, .replies, .hold, .mute, .key, .seq, .bus, .eng, .prc, .flt] s t ∧
        let settled := t.seq.schedule = rest ∧
          (∀ j : KeyId, j ≠ x.key → t.key.records[j] = s.key.records[j]) ∧
          (t.key.records[x.key]).travel = (s.key.records[x.key]).travel ∧
          (∀ c, c ≠ x.contact → t.contact x.key c = s.contact x.key c) ∧
          (last → s.keyState x.key = .descending → t.keyState x.key = .down) ∧
          (last → s.keyState x.key = .ascending → t.keyState x.key = .up) ∧
          (¬ last → t.keyState x.key = s.keyState x.key)
        let arrived := m = .upper ∧ last ∧ s.keyState x.key = .ascending ∧ t.manualUp .upper = true
        let closed := settled ∧ t.contact x.key x.contact = .closed bound ∧
          t.prc = (let struck := if x.contact = 9 then s.prc.struck else s.prc
            if arrived then struck.rearmed else struck) ∧
          (bound = none → t.bus = s.bus ∧ sameCache t s) ∧
          ∀ w, bound = some w → t.bus.clicks = clicked true ∧
            counted t w (s.bus.countOf row w + 1) (s.bus.demand[w] + 1) ∧
            (s.bus.demand[w] ≠ 0 → sameCache t s) ∧
            (s.bus.demand[w] = 0 → ∃ v, sameCache t v ∧ DemandRose w
              (((s.setSeq { s.seq with schedule := rest }).setContact x.key x.contact
                (.closed (some w))).setBus
                (s.bus.setCount row w (s.bus.countOf row w + 1) (s.bus.demand[w] + 1))) v)
        (x.kind = .close → (s.faultAction .engineShortage ≠ .release → closed) ∧
          (closed ∨ ∀ m, t.ManualReleased m)) ∧
        (x.kind = .open_ → settled ∧ t.contact x.key x.contact = .opened ∧
          t.prc = (if arrived then s.prc.rearmed else s.prc) ∧
          Frame [.key, .seq, .bus, .eng, .prc, .flt] s t ∧ ShortageEases s t ∧
          ((∀ w, s.contact x.key x.contact ≠ .closed (some w)) → t.bus = s.bus ∧ t.eng = s.eng) ∧
          ∀ w, s.contact x.key x.contact = .closed (some w) → t.bus.clicks = clicked false ∧
            (s.bus.countOf row w ≠ 0 → counted t w (s.bus.countOf row w - 1) (s.bus.demand[w] - 1)) ∧
            (s.bus.countOf row w ≠ 0 → s.bus.demand[w] = 1 → DemandFell w s.eng t.eng) ∧
            (s.bus.countOf row w = 0 ∨ s.bus.demand[w] ≠ 1 → t.eng = s.eng)))

/-- LOAD_COMPLETE and WRITE_BACK_COMPLETE complete the head store request when it is theirs and may
complete at this tick: the engine becomes ACTIVE, becomes IDLE at the head of the LRU List, loads its next
wheel, becomes FREE at the tail of the Free List, or is handed over to the first starved wheel;
ENGINE_SHORTAGE goes absent with the last starved wheel (R98, R99, R103, R104, R110, R112). -/
def Obligations.StoreRequestsComplete : Prop :=
  ∀ s : State, s.Running →
    let c := s.eng
    ((c.storeReady = false ∨ ∀ q rest, c.queue = q :: rest → q.kind = .writeBack) →
      exec .loadComplete s = .next s) ∧
    ((c.storeReady = false ∨ ∀ q rest, c.queue = q :: rest → q.kind = .load) →
      exec .writeBackComplete s = .next s) ∧
    (∀ e w rest, c.queue = ⟨e, .load, w⟩ :: rest → c.storeReady = true →
      ∃ t, exec .loadComplete s = .next t ∧ Frame [.eng, .flt] s t ∧ ShortageEases s t ∧
        t.eng.storeReady = false ∧
        (t.eng.engines[e]).tone = (c.store[w]).tone ∧ (t.eng.engines[e]).dirty = false ∧
        (∀ e' : EngineId, e' ≠ e → t.eng.engines[e'] = c.engines[e']) ∧ t.eng.free = c.free ∧
        (s.bus.demand[w] ≠ 0 → (t.eng.engines[e]).state = .active ∧ t.eng.queue = rest ∧
          t.eng.lru = c.lru ∧ t.eng.starved = c.starved ∧ t.eng.store = c.store) ∧
        (s.bus.demand[w] = 0 → c.starved = [] → (t.eng.engines[e]).state = .idle ∧
          (t.eng.engines[e]).settle = 0 ∧ t.eng.lru = e :: c.lru ∧ t.eng.queue = rest ∧
          t.eng.store = c.store) ∧
        (∀ n more, s.bus.demand[w] = 0 → c.starved = n :: more →
          (t.eng.engines[e]).state = .loading ∧ (t.eng.engines[e]).wheel = some n ∧
          t.eng.starved = more ∧ t.eng.lru = c.lru ∧ t.eng.queue = rest ++ [⟨e, .load, n⟩] ∧
          (t.eng.store[n]).bound = some e ∧ (w ≠ n → (t.eng.store[w]).bound = none))) ∧
    (∀ e v rest, c.queue = ⟨e, .writeBack, v⟩ :: rest → c.storeReady = true →
      ∃ t, exec .writeBackComplete s = .next t ∧ Frame [.eng, .flt, .req] s t ∧ ShortageEases s t ∧
        t.eng.storeReady = false ∧ (t.eng.store[v]).tone = (c.engines[e]).tone ∧
        (∀ e' : EngineId, e' ≠ e → t.eng.engines[e'] = c.engines[e']) ∧ t.eng.lru = c.lru ∧
        (∀ n, (c.engines[e]).next = some n → s.bus.demand[n] ≠ 0 →
          (t.eng.engines[e]).state = .loading ∧ (t.eng.engines[e]).wheel = some n ∧
          (t.eng.engines[e]).next = none ∧ (t.eng.store[n]).bound = some e ∧
          t.eng.queue = rest ++ [⟨e, .load, n⟩] ∧ t.eng.free = c.free ∧ t.eng.starved = c.starved) ∧
        ((∀ n, (c.engines[e]).next = some n → s.bus.demand[n] = 0) →
          (c.starved = [] → (t.eng.engines[e]).state = .free ∧ (t.eng.engines[e]).wheel = none ∧
            (t.eng.engines[e]).dirty = false ∧ t.eng.free = c.free ++ [e] ∧ t.eng.queue = rest) ∧
          (∀ n more, c.starved = n :: more → (t.eng.engines[e]).state = .loading ∧
            (t.eng.engines[e]).wheel = some n ∧ (t.eng.engines[e]).dirty = false ∧
            t.eng.starved = more ∧ t.eng.free = c.free ∧ t.eng.queue = rest ++ [⟨e, .load, n⟩] ∧
            (t.eng.store[n]).bound = some e)) ∧
        t.req = (if s.req.inFlight = some .flushEngines ∧ t.eng.flushing = false then
            { s.req with inFlight := none, lastResult := .done }
          else s.req))

/-- SETTLE_DONE: an IDLE engine's settle count goes up by one at its tick; at 256 it is clean, its tone
state is the rest value, and a dirty one's wheel record takes the rest value (R107). CLICK_PULSE_EXPIRY:
the oldest click pulse leaves when its 16 ticks have been sounded (R89). At every tick the wheel signals, the
tone states, the leakage bed and the click sums are those of the rules (R87, R89, R90, R95, R107 to R109): a
wheel's waveform is that of its shape at its phase, shape 0 a pure sine and each step up more of the upper
harmonics, and it goes through the wheel's pickup circuit; without drive, the circuit lets the tone state fall
toward rest at every tick, to almost at rest before the 256th settle tick, and the settling output to silence.
That SETTLE_DONE is any settle tick of the engine, below 256 too, and at most one in a tick, is the model's
reading (assumption log 5 and log 3); that signals are exact rationals is the model's choice (log 7); the
level and harmonics of the shapes, the pickup circuit and a manual's full scale are free values (log 8 and
log 11), that distance from rest is a quadratic form and almost at rest 1/257 of the start is the model's
reading (log 8), and the sine's rounding is the model's choice (log 10). -/
def Obligations.EnginesSettleAndClicksExpire : Prop :=
  (∀ s : State, s.EnginesSound) ∧ Config.wheelVoices.ShapesSound ∧ Config.undrivenPickup.Settles ∧
  ∀ s : State, s.Running →
    (∀ e : EngineId, let r := s.eng.engines[e]
      (r.state ≠ .idle ∨ r.ticked = true → exec (.settleDone e) s = .next s) ∧
      (r.state = .idle → r.ticked = false → ∃ t, exec (.settleDone e) s = .next t ∧
        (∀ e' : EngineId, e' ≠ e → t.eng.engines[e'] = s.eng.engines[e']) ∧
        t.eng = { s.eng with engines := t.eng.engines, store := t.eng.store } ∧
        (r.settle < 255 → t.eng.engines[e] = { r with settle := r.settle + 1, ticked := true }) ∧
        (r.settle = 255 → t.eng.engines[e]
          = { r with settle := 256, ticked := true, dirty := false, tone := ToneState.rest }) ∧
        (r.settle = 256 → t.eng.engines[e] = { r with ticked := true }) ∧
        (∀ w, r.settle = 255 → r.wheel = some w → r.dirty = true →
          t.eng.store[w] = { s.eng.store[w] with tone := ToneState.rest }) ∧
        (∀ w : Wheel, r.settle ≠ 255 ∨ r.dirty = false ∨ r.wheel ≠ some w →
          t.eng.store[w] = s.eng.store[w]) ∧ Frame [.eng] s t)) ∧
    (s.bus.clicks = [] → exec .clickPulseExpiry s = .next s) ∧
    ∀ p rest, s.bus.clicks = p :: rest → exec .clickPulseExpiry s = .next
      (if 16 ≤ (s.seq.tickCount - p.start).toNat then s.setBus { s.bus with clicks := rest } else s)

/-! ### Controls and registration -/

/-- A control move whose id is unknown or whose value lies outside the id's range counts one Control
Error and has no other effect (R119), whichever row carries it; in INITIALIZING it does nothing at all
(R25, R26). -/
def Obligations.ControlErrorsAreCounted : Prop :=
  ∀ (s : State) (value : BitVec 8), s.Running →
    let error := if s.req.opState = .initializing then s
      else s.setCnt { s.cnt with controlErrors := s.cnt.controlErrors + 1 }
    (∀ id : BitVec 8, (¬ (id.toNat ≤ 8 ∨ (16 ≤ id.toNat ∧ id.toNat ≤ 24) ∨
        (32 ≤ id.toNat ∧ id.toNat ≤ 40) ∨ (48 ≤ id.toNat ∧ id.toNat ≤ 52) ∨
        (56 ≤ id.toNat ∧ id.toNat ≤ 58) ∨ id.toNat = 64 ∨ id.toNat = 65 ∨ id.toNat = 72) ∨
        controlOk id.toNat value.toNat = false) → exec (.controlError id value) s = .next error) ∧
    (∀ m n, 8 < value.toNat → exec (.drawbarMove m n value) s = .next error) ∧
    (127 < value.toNat → exec (.expressionMove value) s = .next error) ∧
    (1 < value.toNat → exec (.percussionEnable value) s = .next error ∧
      (∀ which, exec (.percussionSwitch which value) s = .next error) ∧
      exec (.scannerMove .onUpper value) s = .next error ∧
      exec (.scannerMove .onLower value) s = .next error ∧ exec (.rotorBrake value) s = .next error) ∧
    (6 < value.toNat → exec (.scannerMove .mode value) s = .next error) ∧
    (2 < value.toNat → exec (.rotorSelect value) s = .next error) ∧
    (value.toNat = 0 ∨ 7 < value.toNat → exec (.controlRelease value) s = .next error)

/-- DRAWBAR_MOVE sets a drawbar's level and ends its glide, and the manual's glide timer stops with the
last target (R120); EXPRESSION_MOVE, PERCUSSION_SWITCH and SCANNER_MOVE set the value they name and
nothing else (R130, R135, R148). What these settings do to the sound of a tick: the bus signals (R84, R85),
the manual sums with the Drawbar Law, the borrow of B9 and the compensation (R121, R131, R144, R145), the
scanner's outputs (R147) and the dry signal (R132); sources 4 to 7 of R169 are these signals. That signals are
exact rationals is the model's choice (assumption log 7). -/
def Obligations.ControlsSetTheirValues : Prop :=
  (∀ s : State, s.ManualsSound) ∧ ∀ (s : State) (value : BitVec 8), s.Ready →
    (∀ (m : Manual) (n : Fin 9), value.toNat ≤ 8 → ∃ t, exec (.drawbarMove m n value) s = .next t ∧
      (t.reg.manualBars m)[n] = ⟨value.toNat, none⟩ ∧
      (∀ n' : Fin 9, n' ≠ n → (t.reg.manualBars m)[n'] = (s.reg.manualBars m)[n']) ∧
      (∀ m', m' ≠ m → t.reg.manualBars m' = s.reg.manualBars m' ∧
        t.reg.glide[m'.toFin] = s.reg.glide[m'.toFin]) ∧
      t.reg.pendingReg = s.reg.pendingReg ∧ t.reg.expression = s.reg.expression ∧
      ((∃ n' : Fin 9, n' ≠ n ∧ ((s.reg.manualBars m)[n']).target ≠ none) →
        t.reg.glide[m.toFin] = s.reg.glide[m.toFin]) ∧
      ((∀ n' : Fin 9, n' ≠ n → ((s.reg.manualBars m)[n']).target = none) →
        t.reg.glide[m.toFin] = Timer.stopped) ∧ Frame [.reg] s t) ∧
    (value.toNat ≤ 127 → exec (.expressionMove value) s
      = .next (s.setReg { s.reg with expression := BitVec.ofNat 7 value.toNat })) ∧
    (value.toNat ≤ 1 → let on := decide (value.toNat = 1)
      exec (.percussionSwitch .level value) s = .next (s.setPrc { s.prc with soft := on }) ∧
      exec (.percussionSwitch .decay value) s = .next (s.setPrc { s.prc with slow := on }) ∧
      exec (.percussionSwitch .harmonic value) s = .next (s.setPrc { s.prc with third := on }) ∧
      exec (.scannerMove .onUpper value) s
        = .next (s.setPrc { s.prc with setting := { s.prc.setting with onUpper := on } }) ∧
      exec (.scannerMove .onLower value) s
        = .next (s.setPrc { s.prc with setting := { s.prc.setting with onLower := on } })) ∧
    (∀ mode : Fin 7, value.toNat = mode.val → exec (.scannerMove .mode value) s
      = .next (s.setPrc { s.prc with setting := { s.prc.setting with mode := mode } }))

/-- PERCUSSION_ENABLE: on makes the envelope ARMED while every UPPER key is UP and SPENT otherwise, off
makes it OFF, each with level 0 and the halving timer stopped; the value already held changes nothing
(R141). -/
def Obligations.PercussionIsEnabled : Prop :=
  ∀ s : State, s.Ready →
    (s.prc.enable = true → exec (.percussionEnable 1) s = .next s) ∧
    (s.prc.enable = false → exec (.percussionEnable 0) s = .next s) ∧
    (s.prc.enable = false → exec (.percussionEnable 1) s = .next (s.setPrc { s.prc with
      enable := true, level := 0, halving := Timer.stopped,
      envelope := if s.manualUp .upper then .armed else .spent })) ∧
    (s.prc.enable = true → exec (.percussionEnable 0) s = .next (s.setPrc { s.prc with
      enable := false, level := 0, halving := Timer.stopped, envelope := .off }))

/-- GLIDE_STEP: a manual's glide timer counts, and when it reaches 64 times the glide interval every
drawbar with a target moves by one toward it and loses the target on reaching it; the timer starts again
while a target is left (R125). That the command only counts before that time, and does nothing a second time
in a tick, is the model's reading (assumption log 5 and log 3). -/
def Obligations.GlidesStep : Prop :=
  ∀ (m : Manual) (s : State), s.Running →
    let timer := s.reg.glide[m.toFin]
    let interval := (wordAt s.tab.playSettings 11).toNat
    (timer.due = false → exec (.glideStep m) s = .next s) ∧
    (timer.due = true → ∃ t, exec (.glideStep m) s = .next t ∧ Frame [.reg] s t ∧
      (∀ m', m' ≠ m → t.reg.manualBars m' = s.reg.manualBars m' ∧
        t.reg.glide[m'.toFin] = s.reg.glide[m'.toFin]) ∧
      t.reg.pendingReg = s.reg.pendingReg ∧ t.reg.expression = s.reg.expression ∧
      (timer.count + 1 < 64 * interval → t.reg.manualBars m = s.reg.manualBars m ∧
        t.reg.glide[m.toFin] = ⟨timer.running, timer.count + 1, true⟩) ∧
      (64 * interval ≤ timer.count + 1 →
        (∀ n : Fin 9, let b := (s.reg.manualBars m)[n]
          let q := (t.reg.manualBars m)[n]
          (b.target = none → q = b) ∧
          (∀ l, b.target = some l →
            q.level = (if b.level < l then b.level + 1 else if l < b.level then b.level - 1
              else b.level) ∧
            q.target = (if q.level = l then none else some l))) ∧
        ((∃ n : Fin 9, ((t.reg.manualBars m)[n]).target ≠ none) →
          t.reg.glide[m.toFin] = Timer.start) ∧
        ((∀ n : Fin 9, ((t.reg.manualBars m)[n]).target = none) →
          t.reg.glide[m.toFin] = Timer.stopped)))

/-- HALVING: the halving timer counts, and when it reaches the halving period in force the level is
halved and the timer starts again; a level that comes below 16 becomes 0 and the envelope SPENT
(R139). The percussion signal is the bus signal of BP at the envelope gain, which falls in a straight line
between halvings (R139, R143). That the command only counts before that time, and does nothing a second time
in a tick, is the model's reading (assumption log 5 and log 3); that signals are exact rationals is the
model's choice (log 7). -/
def Obligations.EnvelopeHalves : Prop :=
  (∀ s : State, s.PercussionSounds) ∧ ∀ s : State, s.Running →
    let period := (wordAt s.tab.playSettings (if s.prc.slow then 5 else 4)).toNat
    (s.prc.halving.due = false → exec .halving s = .next s) ∧
    (s.prc.halving.due = true →
      (s.prc.halving.count + 1 < period → exec .halving s
        = .next (s.setPrc { s.prc with halving := s.prc.halving.add })) ∧
      (period ≤ s.prc.halving.count + 1 → 16 ≤ s.prc.level / 2 → exec .halving s
        = .next (s.setPrc { s.prc with level := s.prc.level / 2, halving := Timer.start })) ∧
      (period ≤ s.prc.halving.count + 1 → s.prc.level / 2 < 16 → exec .halving s
        = .next (s.setPrc { s.prc with envelope := .spent, level := 0, halving := Timer.stopped })))

/-! ### The rotors -/

/-- ROTOR_SELECT: a change of the selector retargets each rotor, but for a STOPPED one under STOP: to the
slow speed, the fast speed, the creep speed 20 with the brake on or 0 with it off (R151, R153). -/
def Obligations.SelectorRetargets : Prop :=
  ∀ (value : BitVec 8) (sel : Selector) (s : State), s.Ready →
    (value = 0 ∧ sel = .stop) ∨ (value = 1 ∧ sel = .slow) ∨ (value = 2 ∧ sel = .fast) →
    (s.rot.selector = sel → exec (.rotorSelect value) s = .next s) ∧
    (s.rot.selector ≠ sel → ∃ t, exec (.rotorSelect value) s = .next t ∧ Frame [.rot] s t ∧
      t.rot = { s.rot with selector := sel, horn := t.rot.horn, drum := t.rot.drum } ∧
      ∀ i : RotorId, let base := (match i with | .horn => 0 | .drum => 4)
        let r := s.rot.rotor i
        let q := t.rot.rotor i
        (sel = .stop → r.state = .stopped → q = r) ∧
        (sel = .stop → r.state ≠ .stopped → s.rot.brake = false → r.Retargeted 0 .stopped q) ∧
        (sel = .stop → r.state ≠ .stopped → s.rot.brake = true → r.Retargeted 20 .parking q) ∧
        (sel = .slow → r.Retargeted (wordAt s.tab.rotorSettings base).toNat .slow q) ∧
        (sel = .fast → r.Retargeted (wordAt s.tab.rotorSettings (base + 1)).toNat .fast q))

/-- ROTOR_BRAKE: a change of the brake retargets each rotor that is not STOPPED while the selector is
STOP; while it is SLOW or FAST the new value is kept, touches neither rotor, and is read at the next change
of the selector to STOP (R151, R153, R154). A rotor RISING from speed 0 when the brake is turned off under STOP
becomes STOPPED, as R153 gives, where R154's table says FALLING: the model's reading (assumption log 26). -/
def Obligations.BrakeRetargets : Prop :=
  ∀ (value : BitVec 8) (on : Bool) (s : State), s.Ready →
    (value = 0 ∧ on = false) ∨ (value = 1 ∧ on = true) →
    (s.rot.brake = on → exec (.rotorBrake value) s = .next s) ∧
    (s.rot.brake ≠ on → s.rot.selector ≠ .stop →
      exec (.rotorBrake value) s = .next (s.setRot { s.rot with brake := on }) ∧
      ∃ t, exec (.rotorSelect 0) (s.setRot { s.rot with brake := on }) = .next t ∧
        ∀ i : RotorId, let r := s.rot.rotor i
          r.state ≠ .stopped →
            (on = true → r.Retargeted 20 .parking (t.rot.rotor i)) ∧
            (on = false → r.Retargeted 0 .stopped (t.rot.rotor i))) ∧
    (s.rot.brake ≠ on → s.rot.selector = .stop →
      ∃ t, exec (.rotorBrake value) s = .next t ∧ Frame [.rot] s t ∧
        t.rot = { s.rot with brake := on, horn := t.rot.horn, drum := t.rot.drum } ∧
        ∀ i : RotorId, let r := s.rot.rotor i
          let q := t.rot.rotor i
          (r.state = .stopped → q = r) ∧
          (r.state ≠ .stopped → on = true → r.Retargeted 20 .parking q) ∧
          (r.state ≠ .stopped → on = false → r.Retargeted 0 .stopped q))

/-- A rotor's tick, once per tick: at a boundary a RISING or FALLING rotor moves by its rate and arrives
at its target, then the position advances by speed x 65,536 / 4,800,000 with the remainder kept, then a
PARKING rotor within 1,024 of the park angle stops: BOUNDARY_STEP for both rotors, PARKING_CHECK for one
(R156, R157, R158, R159). What is heard of the rotors at a tick: the crossover's input, the drum band as the
output of a fixed second-order low-pass filter with its corner at 1/60 of the tick rate, the horn band as the
rest, each rotor's gain and the horn's delay at each mic, the balance, and the sources 1 to 3 of R169 (R160 to
R164), the facing being the cosine of its angle to 1/2^64. That each command is a rotor's whole tick, and does nothing a second time in a
tick, is the model's reading (assumption log 5 and log 3); that signals are exact rationals is the model's
choice (log 7), and so is the facing's rounding (log 10); which filter it is among those is a free
value, and that the corner is the half-power point, taken to 1/2^60, and that a constant passes unchanged are
the model's reading (log 9). -/
def Obligations.RotorsTakeTheirTick : Prop :=
  (∀ s : State, s.RotorsHeard) ∧ Config.crossoverFilter.biquad.CrossesOver ∧
  (∀ angle : Word, |((facing angle : Rat) : ℝ) - Real.cos (2 * Real.pi * (angle.toNat / 65536))| ≤ 1 / 2 ^ 64) ∧
  ∀ s : State, s.Running →
    let ticked := fun (t : State) (i : RotorId) =>
      let base := (match i with | .horn => 0 | .drum => 4)
      let rise := (wordAt s.tab.rotorSettings (base + 2)).toNat
      let fall := (wordAt s.tab.rotorSettings (base + 3)).toNat
      let arrival : RotorState := match s.rot.selector with
        | .slow => .slow
        | .fast => .fast
        | .stop => if s.rot.brake then .parking else .stopped
      let r := s.rot.rotor i
      let q := t.rot.rotor i
      (r.ticked = true → q = r) ∧
      (r.ticked = false → ∃ speed state remainder,
        (s.seq.tickCount.toNat % 64 ≠ 0 ∨ (r.state ≠ .rising ∧ r.state ≠ .falling) →
          speed = r.speed ∧ state = r.state ∧ remainder = r.remainder) ∧
        (s.seq.tickCount.toNat % 64 = 0 → r.state = .rising →
          (r.target ≤ r.speed + rise → speed = r.target ∧ state = arrival ∧
            remainder = if arrival = .stopped then 0 else r.remainder) ∧
          (r.speed + rise < r.target →
            speed = r.speed + rise ∧ state = .rising ∧ remainder = r.remainder)) ∧
        (s.seq.tickCount.toNat % 64 = 0 → r.state = .falling →
          (r.speed ≤ r.target + fall → speed = r.target ∧ state = arrival ∧
            remainder = if arrival = .stopped then 0 else r.remainder) ∧
          (r.target + fall < r.speed →
            speed = r.speed - fall ∧ state = .falling ∧ remainder = r.remainder)) ∧
        let moved := speed * 65536 + remainder
        let park := wordAt s.tab.rotorSettings 8
        let parks := state = .parking ∧
          ((q.position - park).toNat ≤ 1024 ∨ (park - q.position).toNat ≤ 1024)
        q.position = r.position + wordOf (moved / 4800000) ∧ q.ticked = true ∧
        (parks → q.state = .stopped ∧ q.speed = 0 ∧ q.target = 0 ∧ q.remainder = 0) ∧
        (¬ parks → q.state = state ∧ q.speed = speed ∧ q.target = r.target ∧
          q.remainder = moved % 4800000))
    (∃ t, exec .boundaryStep s = .next t ∧ Frame [.rot] s t ∧ (∀ i, ticked t i) ∧
      t.rot = { s.rot with horn := t.rot.horn, drum := t.rot.drum }) ∧
    ∀ i, ∃ t, exec (.parkingCheck i) s = .next t ∧ Frame [.rot] s t ∧ ticked t i ∧
      (∀ j, j ≠ i → t.rot.rotor j = s.rot.rotor j) ∧
      t.rot = { s.rot with horn := t.rot.horn, drum := t.rot.drum }

/-! ### The clock, the cascade and the outputs -/

/-- The clock monitor: under source EXTERNAL a good edge gives a tick, a short period falls back to
INTERNAL, a long one does nothing here, and a missed edge is made up by the oscillator until the fourth
falls back; under source INTERNAL the oscillator gives the ticks, and the 256th good period in a row gives
one and returns to EXTERNAL. CLOCK_FALLBACK is reported present and absent with the source (R60, R167, R181).
With a tick the present tick ends, as EPISODE_START ends it (assumption log 3 and log 22), and a new one
begins, in which nothing changes but what TickBegins names (R60, R95, R98, R148, R168, R171). The two ends of
the accepted range, the order of tick and change of source, what the first edge does, and how internal periods
without an edge are counted in a row are the model's (assumption log 17): an edge and a fallback start that
count from 0, and it stands at 4 from the fourth on. That the good-period run keeps its 256 after the return
to EXTERNAL is the model's choice (assumption log 34). -/
def Obligations.ClockGivesTicks : Prop :=
  ∀ (period : Rat) (s : State), s.Running → 0 < period →
    let ticked := fun x b : State => ∃ u, exec .episodeStart x = .next u ∧ TickBegins u b ∧
      b.seq.tickCount = s.seq.tickCount + 1
    let fallen := fun x : State => x.setOut { x.out with
      source := .internal, goodRun := 0, missing := 0, quietPeriods := 0, edgeSeen := false }
    let good := 1 / 52000 ≤ period ∧ period ≤ 1 / 40000
    (s.out.source = .external →
      (good → ∃ b, ticked s b ∧
        exec (.wclkEdge (some period)) s = .next (b.setOut { b.out with missing := 0 })) ∧
      (period < 1 / 52000 → ∃ t, exec (.wclkEdge (some period)) s = .next t ∧
        ConditionReported .clockFallback (fallen s) t) ∧
      (1 / 40000 < period → exec (.wclkEdge (some period)) s = .next s) ∧
      exec (.wclkEdge none) s = .next s ∧ exec .internalOscillatorTick s = .next s ∧
      (s.out.missing < 3 → ∃ b, ticked s b ∧
        exec .missingEdge s = .next (b.setOut { b.out with missing := s.out.missing + 1 })) ∧
      (3 ≤ s.out.missing → ∃ b t, ticked s b ∧ exec .missingEdge s = .next t ∧
        ConditionReported .clockFallback (fallen b) t)) ∧
    (s.out.source = .internal →
      let heard := s.setOut { s.out with edgeSeen := true, quietPeriods := 0 }
      exec .missingEdge s = .next s ∧ exec (.wclkEdge none) s = .next heard ∧
      (¬ good → exec (.wclkEdge (some period)) s = .next (heard.setOut { heard.out with goodRun := 0 })) ∧
      (good → s.out.goodRun + 1 < 256 → exec (.wclkEdge (some period)) s
        = .next (heard.setOut { heard.out with goodRun := s.out.goodRun + 1 })) ∧
      (good → 256 ≤ s.out.goodRun + 1 → ∃ b, ticked heard b ∧ exec (.wclkEdge (some period)) s
        = .next ((b.setOut { b.out with source := .external, goodRun := 256, missing := 0 }).withoutCondition
            .clockFallback)) ∧
      (∃ b, ticked s b ∧
        let quiet := if s.out.edgeSeen then 0 else min 4 (s.out.quietPeriods + 1)
        exec .internalOscillatorTick s = .next (b.setOut { b.out with
          edgeSeen := false, quietPeriods := quiet
          goodRun := if quiet = 4 then 0 else s.out.goodRun })))

/-- CASCADE_SAMPLE: Cascade In is valid from the sixteenth good sample in a row and invalid, with the run
at 0, from the first bad one; a sample is heard from the one after that which made it valid (R168; that
a second arrival in one tick turns that tick's sample bad is the model's reading, assumption log 21, as is
that a frame commanded after EPISODE_START or EPISODE_END of its tick is such a second arrival). -/
def Obligations.CascadeIsJudged : Prop :=
  ∀ s : State, s.Running →
    let bad := s.setOut { s.out with
      cascadeValid := false, cascadeRun := 0, cascadeIn := 0, cascadeJudged := true }
    (∀ f, f = .missing ∨ f = .misframed ∨ f = .several → exec (.cascadeSample f) s = .next bad) ∧
    ∀ x : Sample,
      (s.out.cascadeJudged = true → exec (.cascadeSample (.good x)) s = .next bad) ∧
      (s.out.cascadeJudged = false → s.out.cascadeValid = true → exec (.cascadeSample (.good x)) s
        = .next (s.setOut { s.out with cascadeIn := x, cascadeJudged := true })) ∧
      (s.out.cascadeJudged = false → s.out.cascadeValid = false → s.out.cascadeRun + 1 < 16 →
        exec (.cascadeSample (.good x)) s = .next (s.setOut { s.out with
          cascadeRun := s.out.cascadeRun + 1, cascadeIn := 0, cascadeJudged := true })) ∧
      (s.out.cascadeJudged = false → s.out.cascadeValid = false → 16 ≤ s.out.cascadeRun + 1 →
        exec (.cascadeSample (.good x)) s = .next (s.setOut { s.out with
          cascadeRun := 16, cascadeValid := true, cascadeIn := 0, cascadeJudged := true }))

/-- EPISODE_START and EPISODE_END: every process of the tick that has still to run takes its tick, each as its
own timed row does, and a tick without a cascade sample is a bad one (R168); then the engines render and an ACTIVE one is dirty from then on (R106), the scanner lines and phase
(R146) and the crossover and horn line (R160, R161) take their step, the fade moves by one with the mute
request (R171), each pre-limit sample is formed (R169), and the limiters judge it: an output that has exceeded
its threshold for its deglitch starts an episode, which is counted and raises OUTPUT_LIMIT, and a standing
episode goes on or ends as its mode says (R172 to R174, R177, R181). Every port sample is its pre-limit sample
at the limit scale of the episodes that act on it (R175), within full scale, and at scale 1 in the tick of a
soft reset (R178; that a new episode may start in that tick is the model's reading, assumption log 38). The
order of the tick's processes, once each in a tick and before this step, is the model's too (assumption log 3,
log 5 and log 22), and the crossover's filter and what an engine renders are free values within their
laws (assumption log 8 and log 9). That lines and port samples are exact rationals, where the example of 10.8 rounds down, is the model's
choice (assumption log 7), and so is that the start of an episode and its OUTPUT_LIMIT are one notice change
(assumption log 13). -/
def Obligations.OutputStageSteps : Prop :=
  ∀ s : State, s.Running →
    let u := s.tickProcesses
    let a := u.formAudio.2
    let word := fun (o : OutputId) (part : Nat) => if u.req.opState = .initializing then (0 : Word)
      else wordAt u.tab.outputSettings (3 * o.val + part)
    let source := fun o => bitsOf (word o 0) 2 0
    let level := fun o => bitsOf (word o 0) 15 8
    let threshold : OutputId → Rat := fun o => (bitsOf (word o 1) 7 0 : Rat) / 256
    let deglitch := fun o => 2 ^ bitsOf (word o 1) 9 8
    let gain : OutputId → Rat := fun o => (bitsOf (word o 2) 15 8 : Rat) / 256
    let mode := fun o => limitModeOfWord (word o 2)
    let fade := if u.out.muteBefore then u.out.fade - 1 else min 64 (u.out.fade + 1)
    let pre : OutputId → Rat := fun o => if source o = 0 ∨ level o = 0 ∨ fade = 0 then 0
      else u.sourceSample a (source o) * ((level o : Rat) / 256) * ((fade : Rat) / 64)
    let exceeding := fun o => decide (threshold o < pre o ∨ threshold o < -pre o)
    let boundary := u.seq.tickCount.toNat % 64 = 0
    let starts := fun o : OutputId => (u.out.limiters[o]).episode = none ∧ mode o ≠ .off ∧
      exceeding o = true ∧ deglitch o ≤ (u.out.limiters[o]).run + 1
    let input : Rat := if (wordAt u.tab.rotorSettings 15).toNat = 1 then
        a.dry + u.out.cascadeIn * (((wordAt u.tab.rotorSettings 14).toNat : Rat) / 256)
      else a.dry
    let bands := crossover u.rot.crossover input
    ∃ t, exec .episodeStart s = .next t ∧ exec .episodeEnd s = .next t ∧ ProcessesRun s u ∧
      (s.out.cascadeJudged = true → u.out.cascadeValid = s.out.cascadeValid ∧
        u.out.cascadeRun = s.out.cascadeRun ∧ u.out.cascadeIn = s.out.cascadeIn) ∧
      (s.out.cascadeJudged = false → u.out.cascadeValid = false ∧ u.out.cascadeRun = 0 ∧
        u.out.cascadeIn = 0 ∧ u.out.cascadeJudged = true) ∧
      (u.out.stepTaken = true → t = u) ∧
      (u.out.stepTaken = false →
        let released := (∃ o, starts o) ∧ u.WouldRelease .outputLimit
        let acting := fun p o : OutputId => ∃ e, (t.out.limiters[p]).episode = some e ∧
          (e.mode = .nextPeriod ∨ e.mode = .below ∨ e.mode = .afterN) ∧
          (p = o ∨ (word p 2).getLsbD 3 = true)
        t.out = { u.out with
          fade := fade, limiters := t.out.limiters, ports := t.out.ports, stepTaken := true
          muteRequest := t.out.muteRequest } ∧
        (∀ o : OutputId, ∃ scale : Rat, t.out.ports[o] = max (-1) (min 1 (pre o * scale)) ∧
          (u.out.unlimited = true → scale = 1) ∧
          (u.out.unlimited = false → ((∀ p, ¬ acting p o) → scale = 1) ∧
            ((∃ p, acting p o) → (∃ p, acting p o ∧ scale = gain p) ∧
              ∀ p, acting p o → scale ≤ gain p))) ∧
        (∀ o : OutputId, t.cnt.limitEpisodes[o] = u.cnt.limitEpisodes[o] +
          (if starts o then 1 else 0)) ∧
        t.cnt = { u.cnt with limitEpisodes := t.cnt.limitEpisodes } ∧
        (∀ o : OutputId, let l := u.out.limiters[o]
          let q := t.out.limiters[o]
          (l.episode = none → mode o = .off ∨ exceeding o = false → q = { l with run := 0 }) ∧
          (l.episode = none → mode o ≠ .off → exceeding o = true →
            l.run + 1 < deglitch o → q = { l with run := l.run + 1 }) ∧
          (starts o → q.run = 0 ∧ q.flag = true ∧ ∃ e, q.episode = some e ∧
            e.mode = mode o ∧ e.extend = false ∧
            (mode o = .afterN → e.remaining = bitsOf (word o 2) 7 4 + 1)) ∧
          (∀ e, l.episode = some e → q.run = 0 ∧ q.flag = l.flag ∧
            (e.mode = .below → q.episode = if exceeding o then some e else none) ∧
            (e.mode = .report → q.episode = if boundary then none else some e) ∧
            (e.mode = .afterN → q.episode = if boundary then
                (if e.remaining ≤ 1 then none else some { e with remaining := e.remaining - 1 })
              else some e) ∧
            (e.mode = .nextPeriod → q.episode = if boundary then
                (if e.extend ∨ exceeding o = true then some { e with extend := false } else none)
              else some { e with extend := e.extend || exceeding o }))) ∧
        ((∃ o, starts o) → t.Signalled ∧ ∀ k, t.record k =
          let q := if k = .outputLimit then
              (u.record k).occurred (u.faultMode k) (u.faultAction k) else u.record k
          if k = .engineShortage ∧ u.eng.starved ≠ [] ∧ t.eng.starved = [] then q.gone (u.faultMode k)
          else q) ∧
        (∀ o₁, (∀ o, starts o ↔ o = o₁) → ∃ notices, t.lnk.replies = u.lnk.replies ++ notices ∧
          ChangeCounted (u.NoticeRoom .broadcast) notices u t) ∧
        ((∀ o, ¬ starts o) → Frame [.rot, .out, .eng, .prc] u t) ∧
        (released → Released allManuals u t) ∧
        t.prc.phase = u.prc.phase
          + (if u.req.opState = .initializing then 0 else wordAt u.tab.playSettings 7) ∧
        t.prc.upperLine[0] = u.unscannedSum u.renderEngines.signals .upper ∧
        t.prc.lowerLine[0] = u.unscannedSum u.renderEngines.signals .lower ∧
        (∀ i : Fin 63, t.prc.upperLine[i.val + 1] = u.prc.upperLine[i.val] ∧
          t.prc.lowerLine[i.val + 1] = u.prc.lowerLine[i.val]) ∧
        t.rot = { u.rot with crossover := bands.1, hornLine := t.rot.hornLine } ∧
        t.rot.hornLine[0] = input - bands.2 ∧
        (∀ i : Fin 32, t.rot.hornLine[i.val + 1] = u.rot.hornLine[i.val]) ∧
        (u.rot.crossover = CrossoverState.rest → input = 0 → bands = (CrossoverState.rest, 0)) ∧
        (¬ released →
          t.prc = { u.prc with
            phase := t.prc.phase, upperLine := t.prc.upperLine, lowerLine := t.prc.lowerLine } ∧
          t.eng = { u.eng with engines := t.eng.engines } ∧
          (∀ e : EngineId, let r := u.eng.engines[e]
            let q := t.eng.engines[e]
            let tone := (u.renderEngines.cache.engines[e]).tone
            (r.state = .active → r.wheel ≠ none → q = { r with tone := tone, dirty := true }) ∧
            (r.state = .idle → r.wheel ≠ none → r.settle ≠ 256 → q = { r with tone := tone }) ∧
            ((r.state ≠ .active ∧ r.state ≠ .idle) ∨ r.wheel = none ∨ (r.state = .idle ∧ r.settle = 256) →
              q = r)) ∧
          Frame [.rot, .out, .cnt, .replies, .hold, .mute, .eng, .prc, .flt] u t) ∧
        Frame [.rot, .out, .cnt, .replies, .hold, .mute, .key, .seq, .bus, .eng, .prc, .flt] u t)

/-! ### The Fault Unit's timers -/

/-- RETRY_EXPIRY: a retry timer counts, and at 256 times the retry time its record's episode ends and the
signals follow (R183). CONSOLE_SILENCE_EXPIRY: the silence timer counts, and at the silence window it stops
and the condition is reported present, which is an occurrence if it was absent (R181, R187).
NOTICE_TIME_EXPIRY: the notice timer counts up to 16,320, and a NOTICE may fall due (R189).
NOTICE_WAITING_QUEUED: a waiting NOTICE takes a free place, with the notice state of that moment (R190). That
each command counts one tick of its timer, at most once in a tick, is the model's reading (assumption log 5
and log 3), and so is that a place held for a request in hand is not free (assumption log 12). -/
def Obligations.FaultTimersExpire : Prop :=
  ∀ s : State, s.Ready →
    let room := s.lnk.replies.length + (if s.lnk.replyHeld then 1 else 0) < 4
    (∀ k, let r := s.record k
      let limit := 256 * (wordAt s.tab.playSettings 13).toNat
      (r.retry.due = false → exec (.retryExpiry k) s = .next s) ∧
      (r.retry.due = true → r.retry.count + 1 < limit → ∃ t, exec (.retryExpiry k) s = .next t ∧
        t.record k = { r with retry := r.retry.add } ∧ (∀ j, j ≠ k → t.record j = s.record j) ∧
        t.flt = { s.flt with records := t.flt.records } ∧ Frame [.flt] s t) ∧
      (r.retry.due = true → limit ≤ r.retry.count + 1 → ∃ t notices,
        exec (.retryExpiry k) s = .next t ∧
        t.record k = { r with held := none, retry := Timer.stopped } ∧
        (∀ j, j ≠ k → t.record j = s.record j) ∧ t.Signalled ∧
        t.lnk.replies = s.lnk.replies ++ notices ∧ ChangeCounted room notices s t ∧
        Frame [.replies, .hold, .mute, .flt] s t)) ∧
    (s.flt.silence.due = false → exec .consoleSilenceExpiry s = .next s) ∧
    (s.flt.silence.due = true →
      ((∀ n, s.silenceWindow = some n → s.flt.silence.count + 1 < n) →
        exec .consoleSilenceExpiry s = .next (s.setFlt { s.flt with silence := s.flt.silence.add })) ∧
      (∀ n, s.silenceWindow = some n → n ≤ s.flt.silence.count + 1 →
        ∃ t, exec .consoleSilenceExpiry s = .next t ∧
          ConditionReported .consoleSilence (s.setFlt { s.flt with silence := Timer.stopped }) t)) ∧
    (s.flt.noticeTimer.due = false → exec .noticeTimeExpiry s = .next s) ∧
    (s.flt.noticeTimer.due = true → ∃ t notices, exec .noticeTimeExpiry s = .next t ∧
      t.lnk.replies = s.lnk.replies ++ notices ∧
      NoticeChecked s.flt.pendingChanges
        ⟨s.flt.noticeTimer.running, min 16320 (s.flt.noticeTimer.count + 1), true⟩ s.flt.waiting room
        notices t ∧ t.flt.records = s.flt.records ∧ t.flt.silence = s.flt.silence ∧
      Frame [.replies, .flt] s t) ∧
    (s.flt.waiting = false ∨ ¬ room → exec .noticeWaitingQueued s = .next s) ∧
    (s.flt.waiting = true → room → ∃ t, exec .noticeWaitingQueued s = .next t ∧
      t.lnk.replies = s.lnk.replies ++ [frameWords s.station 9 0 s.noticeWords] ∧
      t.flt = { s.flt with pendingChanges := 0, noticeTimer := Timer.start, waiting := false } ∧
      Frame [.replies, .flt] s t)

/-! ### Laws that every step keeps -/

/-- The counts are those of the closed contacts and the schedule stays lawful, in order of due tick, each key's contacts are as its
state says, and the percussion envelope is ARMED only while every UPPER key is UP, at every step (R48, R63,
R76, R136). That a RELEASE taken in the middle of a key event ends the event, which these laws ask for, is
assumption log 14. -/
def Obligations.StepKeepsCounts : Prop :=
  ∀ s t : State, s.CountsMatch → s.KeysLawful → s.EnvelopeLawful → step s = .next t →
    t.CountsMatch ∧ t.KeysLawful ∧ t.EnvelopeLawful

/-- The demand of a wheel stays the sum of its counts (R78). -/
def Obligations.StepKeepsDemand : Prop :=
  ∀ s t : State, s.DemandIsSum → step s = .next t → t.DemandIsSum

/-- Every engine stays on the list and in the queue that its state calls for (R96, R98), a wheel is
starved only while no engine is FREE or IDLE (R97), a wheel's bound engine is the one that serves it, an
ACTIVE engine's wheel is demanded and an IDLE one's is not, and a demanded wheel is bound or starved, one of
these at a time (R93, R94). -/
def Obligations.StepKeepsEngineLists : Prop :=
  ∀ s t : State, s.eng.Listed → s.StarvedWaits → s.EnginesBound → step s = .next t →
    t.eng.Listed ∧ t.StarvedWaits ∧ t.EnginesBound

/-- The queues and counts stay within the room the manual gives them (R8, R10, R11, R63, R88, R171,
R189). -/
def Obligations.StepKeepsBounds : Prop :=
  ∀ s t : State, s.Bounded → step s = .next t → t.Bounded

/-- HOLD, the mute request, FAULT and WARN stay what the records, the limit flags and the operating state
call for (R49, R170, R182, R186), and records hold actions only where their mode has episodes (R180). -/
def Obligations.StepKeepsSignals : Prop :=
  ∀ s t : State, s.Signalled → s.EpisodesAllowed → step s = .next t → t.Signalled ∧ t.EpisodesAllowed

/-- Each rotor stays in a state that R152 describes, with the target that the selector and the brake give it:
its slow speed under SLOW, its fast speed under FAST, and under STOP the creep speed or 0 (R152 to R155, R157;
that a brake turned off under STOP follows R153 is assumption log 26). -/
def Obligations.StepKeepsRotors : Prop :=
  ∀ s t : State, s.RotorsLawful → step s = .next t → t.RotorsLawful

/-- The state after reset has every one of these laws. -/
def Obligations.ResetSatisfiesLaws : Prop :=
  State.reset.CountsMatch ∧ State.reset.KeysLawful ∧ State.reset.EnvelopeLawful ∧
    State.reset.DemandIsSum ∧ State.reset.eng.Listed ∧ State.reset.StarvedWaits ∧
    State.reset.EnginesBound ∧ State.reset.Bounded ∧ State.reset.Signalled ∧
    State.reset.EpisodesAllowed ∧ State.reset.RotorsLawful
end

