-- ==== Sys2Proof/Laws/State.lean ====
section
/-!
SUPPORT. Each replacement of one block of the state: what every field of the result is.
-/

namespace Sys2Proof.Machine

@[simp] theorem State.setLnk_lnk (s : State) (b : LinkUnit) : (s.setLnk b).lnk = b := rfl
@[simp] theorem State.setLnk_req (s : State) (b : LinkUnit) : (s.setLnk b).req = s.req := rfl
@[simp] theorem State.setLnk_tab (s : State) (b : LinkUnit) : (s.setLnk b).tab = s.tab := rfl
@[simp] theorem State.setLnk_key (s : State) (b : LinkUnit) : (s.setLnk b).key = s.key := rfl
@[simp] theorem State.setLnk_seq (s : State) (b : LinkUnit) : (s.setLnk b).seq = s.seq := rfl
@[simp] theorem State.setLnk_bus (s : State) (b : LinkUnit) : (s.setLnk b).bus = s.bus := rfl
@[simp] theorem State.setLnk_eng (s : State) (b : LinkUnit) : (s.setLnk b).eng = s.eng := rfl
@[simp] theorem State.setLnk_reg (s : State) (b : LinkUnit) : (s.setLnk b).reg = s.reg := rfl
@[simp] theorem State.setLnk_prc (s : State) (b : LinkUnit) : (s.setLnk b).prc = s.prc := rfl
@[simp] theorem State.setLnk_rot (s : State) (b : LinkUnit) : (s.setLnk b).rot = s.rot := rfl
@[simp] theorem State.setLnk_out (s : State) (b : LinkUnit) : (s.setLnk b).out = s.out := rfl
@[simp] theorem State.setLnk_flt (s : State) (b : LinkUnit) : (s.setLnk b).flt = s.flt := rfl
@[simp] theorem State.setLnk_cnt (s : State) (b : LinkUnit) : (s.setLnk b).cnt = s.cnt := rfl
@[simp] theorem State.setLnk_pending (s : State) (b : LinkUnit) : (s.setLnk b).pending = s.pending := rfl

@[simp] theorem State.setReq_lnk (s : State) (b : RequestUnit) : (s.setReq b).lnk = s.lnk := rfl
@[simp] theorem State.setReq_req (s : State) (b : RequestUnit) : (s.setReq b).req = b := rfl
@[simp] theorem State.setReq_tab (s : State) (b : RequestUnit) : (s.setReq b).tab = s.tab := rfl
@[simp] theorem State.setReq_key (s : State) (b : RequestUnit) : (s.setReq b).key = s.key := rfl
@[simp] theorem State.setReq_seq (s : State) (b : RequestUnit) : (s.setReq b).seq = s.seq := rfl
@[simp] theorem State.setReq_bus (s : State) (b : RequestUnit) : (s.setReq b).bus = s.bus := rfl
@[simp] theorem State.setReq_eng (s : State) (b : RequestUnit) : (s.setReq b).eng = s.eng := rfl
@[simp] theorem State.setReq_reg (s : State) (b : RequestUnit) : (s.setReq b).reg = s.reg := rfl
@[simp] theorem State.setReq_prc (s : State) (b : RequestUnit) : (s.setReq b).prc = s.prc := rfl
@[simp] theorem State.setReq_rot (s : State) (b : RequestUnit) : (s.setReq b).rot = s.rot := rfl
@[simp] theorem State.setReq_out (s : State) (b : RequestUnit) : (s.setReq b).out = s.out := rfl
@[simp] theorem State.setReq_flt (s : State) (b : RequestUnit) : (s.setReq b).flt = s.flt := rfl
@[simp] theorem State.setReq_cnt (s : State) (b : RequestUnit) : (s.setReq b).cnt = s.cnt := rfl
@[simp] theorem State.setReq_pending (s : State) (b : RequestUnit) : (s.setReq b).pending = s.pending := rfl

@[simp] theorem State.setTab_lnk (s : State) (b : Tables) : (s.setTab b).lnk = s.lnk := rfl
@[simp] theorem State.setTab_req (s : State) (b : Tables) : (s.setTab b).req = s.req := rfl
@[simp] theorem State.setTab_tab (s : State) (b : Tables) : (s.setTab b).tab = b := rfl
@[simp] theorem State.setTab_key (s : State) (b : Tables) : (s.setTab b).key = s.key := rfl
@[simp] theorem State.setTab_seq (s : State) (b : Tables) : (s.setTab b).seq = s.seq := rfl
@[simp] theorem State.setTab_bus (s : State) (b : Tables) : (s.setTab b).bus = s.bus := rfl
@[simp] theorem State.setTab_eng (s : State) (b : Tables) : (s.setTab b).eng = s.eng := rfl
@[simp] theorem State.setTab_reg (s : State) (b : Tables) : (s.setTab b).reg = s.reg := rfl
@[simp] theorem State.setTab_prc (s : State) (b : Tables) : (s.setTab b).prc = s.prc := rfl
@[simp] theorem State.setTab_rot (s : State) (b : Tables) : (s.setTab b).rot = s.rot := rfl
@[simp] theorem State.setTab_out (s : State) (b : Tables) : (s.setTab b).out = s.out := rfl
@[simp] theorem State.setTab_flt (s : State) (b : Tables) : (s.setTab b).flt = s.flt := rfl
@[simp] theorem State.setTab_cnt (s : State) (b : Tables) : (s.setTab b).cnt = s.cnt := rfl
@[simp] theorem State.setTab_pending (s : State) (b : Tables) : (s.setTab b).pending = s.pending := rfl

@[simp] theorem State.setKey_lnk (s : State) (b : KeyUnit) : (s.setKey b).lnk = s.lnk := rfl
@[simp] theorem State.setKey_req (s : State) (b : KeyUnit) : (s.setKey b).req = s.req := rfl
@[simp] theorem State.setKey_tab (s : State) (b : KeyUnit) : (s.setKey b).tab = s.tab := rfl
@[simp] theorem State.setKey_key (s : State) (b : KeyUnit) : (s.setKey b).key = b := rfl
@[simp] theorem State.setKey_seq (s : State) (b : KeyUnit) : (s.setKey b).seq = s.seq := rfl
@[simp] theorem State.setKey_bus (s : State) (b : KeyUnit) : (s.setKey b).bus = s.bus := rfl
@[simp] theorem State.setKey_eng (s : State) (b : KeyUnit) : (s.setKey b).eng = s.eng := rfl
@[simp] theorem State.setKey_reg (s : State) (b : KeyUnit) : (s.setKey b).reg = s.reg := rfl
@[simp] theorem State.setKey_prc (s : State) (b : KeyUnit) : (s.setKey b).prc = s.prc := rfl
@[simp] theorem State.setKey_rot (s : State) (b : KeyUnit) : (s.setKey b).rot = s.rot := rfl
@[simp] theorem State.setKey_out (s : State) (b : KeyUnit) : (s.setKey b).out = s.out := rfl
@[simp] theorem State.setKey_flt (s : State) (b : KeyUnit) : (s.setKey b).flt = s.flt := rfl
@[simp] theorem State.setKey_cnt (s : State) (b : KeyUnit) : (s.setKey b).cnt = s.cnt := rfl
@[simp] theorem State.setKey_pending (s : State) (b : KeyUnit) : (s.setKey b).pending = s.pending := rfl

@[simp] theorem State.setSeq_lnk (s : State) (b : Sequencer) : (s.setSeq b).lnk = s.lnk := rfl
@[simp] theorem State.setSeq_req (s : State) (b : Sequencer) : (s.setSeq b).req = s.req := rfl
@[simp] theorem State.setSeq_tab (s : State) (b : Sequencer) : (s.setSeq b).tab = s.tab := rfl
@[simp] theorem State.setSeq_key (s : State) (b : Sequencer) : (s.setSeq b).key = s.key := rfl
@[simp] theorem State.setSeq_seq (s : State) (b : Sequencer) : (s.setSeq b).seq = b := rfl
@[simp] theorem State.setSeq_bus (s : State) (b : Sequencer) : (s.setSeq b).bus = s.bus := rfl
@[simp] theorem State.setSeq_eng (s : State) (b : Sequencer) : (s.setSeq b).eng = s.eng := rfl
@[simp] theorem State.setSeq_reg (s : State) (b : Sequencer) : (s.setSeq b).reg = s.reg := rfl
@[simp] theorem State.setSeq_prc (s : State) (b : Sequencer) : (s.setSeq b).prc = s.prc := rfl
@[simp] theorem State.setSeq_rot (s : State) (b : Sequencer) : (s.setSeq b).rot = s.rot := rfl
@[simp] theorem State.setSeq_out (s : State) (b : Sequencer) : (s.setSeq b).out = s.out := rfl
@[simp] theorem State.setSeq_flt (s : State) (b : Sequencer) : (s.setSeq b).flt = s.flt := rfl
@[simp] theorem State.setSeq_cnt (s : State) (b : Sequencer) : (s.setSeq b).cnt = s.cnt := rfl
@[simp] theorem State.setSeq_pending (s : State) (b : Sequencer) : (s.setSeq b).pending = s.pending := rfl

@[simp] theorem State.setBus_lnk (s : State) (b : BusMatrix) : (s.setBus b).lnk = s.lnk := rfl
@[simp] theorem State.setBus_req (s : State) (b : BusMatrix) : (s.setBus b).req = s.req := rfl
@[simp] theorem State.setBus_tab (s : State) (b : BusMatrix) : (s.setBus b).tab = s.tab := rfl
@[simp] theorem State.setBus_key (s : State) (b : BusMatrix) : (s.setBus b).key = s.key := rfl
@[simp] theorem State.setBus_seq (s : State) (b : BusMatrix) : (s.setBus b).seq = s.seq := rfl
@[simp] theorem State.setBus_bus (s : State) (b : BusMatrix) : (s.setBus b).bus = b := rfl
@[simp] theorem State.setBus_eng (s : State) (b : BusMatrix) : (s.setBus b).eng = s.eng := rfl
@[simp] theorem State.setBus_reg (s : State) (b : BusMatrix) : (s.setBus b).reg = s.reg := rfl
@[simp] theorem State.setBus_prc (s : State) (b : BusMatrix) : (s.setBus b).prc = s.prc := rfl
@[simp] theorem State.setBus_rot (s : State) (b : BusMatrix) : (s.setBus b).rot = s.rot := rfl
@[simp] theorem State.setBus_out (s : State) (b : BusMatrix) : (s.setBus b).out = s.out := rfl
@[simp] theorem State.setBus_flt (s : State) (b : BusMatrix) : (s.setBus b).flt = s.flt := rfl
@[simp] theorem State.setBus_cnt (s : State) (b : BusMatrix) : (s.setBus b).cnt = s.cnt := rfl
@[simp] theorem State.setBus_pending (s : State) (b : BusMatrix) : (s.setBus b).pending = s.pending := rfl

@[simp] theorem State.setEng_lnk (s : State) (b : EngineCache) : (s.setEng b).lnk = s.lnk := rfl
@[simp] theorem State.setEng_req (s : State) (b : EngineCache) : (s.setEng b).req = s.req := rfl
@[simp] theorem State.setEng_tab (s : State) (b : EngineCache) : (s.setEng b).tab = s.tab := rfl
@[simp] theorem State.setEng_key (s : State) (b : EngineCache) : (s.setEng b).key = s.key := rfl
@[simp] theorem State.setEng_seq (s : State) (b : EngineCache) : (s.setEng b).seq = s.seq := rfl
@[simp] theorem State.setEng_bus (s : State) (b : EngineCache) : (s.setEng b).bus = s.bus := rfl
@[simp] theorem State.setEng_eng (s : State) (b : EngineCache) : (s.setEng b).eng = b := rfl
@[simp] theorem State.setEng_reg (s : State) (b : EngineCache) : (s.setEng b).reg = s.reg := rfl
@[simp] theorem State.setEng_prc (s : State) (b : EngineCache) : (s.setEng b).prc = s.prc := rfl
@[simp] theorem State.setEng_rot (s : State) (b : EngineCache) : (s.setEng b).rot = s.rot := rfl
@[simp] theorem State.setEng_out (s : State) (b : EngineCache) : (s.setEng b).out = s.out := rfl
@[simp] theorem State.setEng_flt (s : State) (b : EngineCache) : (s.setEng b).flt = s.flt := rfl
@[simp] theorem State.setEng_cnt (s : State) (b : EngineCache) : (s.setEng b).cnt = s.cnt := rfl
@[simp] theorem State.setEng_pending (s : State) (b : EngineCache) : (s.setEng b).pending = s.pending := rfl

@[simp] theorem State.setReg_lnk (s : State) (b : Registration) : (s.setReg b).lnk = s.lnk := rfl
@[simp] theorem State.setReg_req (s : State) (b : Registration) : (s.setReg b).req = s.req := rfl
@[simp] theorem State.setReg_tab (s : State) (b : Registration) : (s.setReg b).tab = s.tab := rfl
@[simp] theorem State.setReg_key (s : State) (b : Registration) : (s.setReg b).key = s.key := rfl
@[simp] theorem State.setReg_seq (s : State) (b : Registration) : (s.setReg b).seq = s.seq := rfl
@[simp] theorem State.setReg_bus (s : State) (b : Registration) : (s.setReg b).bus = s.bus := rfl
@[simp] theorem State.setReg_eng (s : State) (b : Registration) : (s.setReg b).eng = s.eng := rfl
@[simp] theorem State.setReg_reg (s : State) (b : Registration) : (s.setReg b).reg = b := rfl
@[simp] theorem State.setReg_prc (s : State) (b : Registration) : (s.setReg b).prc = s.prc := rfl
@[simp] theorem State.setReg_rot (s : State) (b : Registration) : (s.setReg b).rot = s.rot := rfl
@[simp] theorem State.setReg_out (s : State) (b : Registration) : (s.setReg b).out = s.out := rfl
@[simp] theorem State.setReg_flt (s : State) (b : Registration) : (s.setReg b).flt = s.flt := rfl
@[simp] theorem State.setReg_cnt (s : State) (b : Registration) : (s.setReg b).cnt = s.cnt := rfl
@[simp] theorem State.setReg_pending (s : State) (b : Registration) : (s.setReg b).pending = s.pending := rfl

@[simp] theorem State.setPrc_lnk (s : State) (b : Percussion) : (s.setPrc b).lnk = s.lnk := rfl
@[simp] theorem State.setPrc_req (s : State) (b : Percussion) : (s.setPrc b).req = s.req := rfl
@[simp] theorem State.setPrc_tab (s : State) (b : Percussion) : (s.setPrc b).tab = s.tab := rfl
@[simp] theorem State.setPrc_key (s : State) (b : Percussion) : (s.setPrc b).key = s.key := rfl
@[simp] theorem State.setPrc_seq (s : State) (b : Percussion) : (s.setPrc b).seq = s.seq := rfl
@[simp] theorem State.setPrc_bus (s : State) (b : Percussion) : (s.setPrc b).bus = s.bus := rfl
@[simp] theorem State.setPrc_eng (s : State) (b : Percussion) : (s.setPrc b).eng = s.eng := rfl
@[simp] theorem State.setPrc_reg (s : State) (b : Percussion) : (s.setPrc b).reg = s.reg := rfl
@[simp] theorem State.setPrc_prc (s : State) (b : Percussion) : (s.setPrc b).prc = b := rfl
@[simp] theorem State.setPrc_rot (s : State) (b : Percussion) : (s.setPrc b).rot = s.rot := rfl
@[simp] theorem State.setPrc_out (s : State) (b : Percussion) : (s.setPrc b).out = s.out := rfl
@[simp] theorem State.setPrc_flt (s : State) (b : Percussion) : (s.setPrc b).flt = s.flt := rfl
@[simp] theorem State.setPrc_cnt (s : State) (b : Percussion) : (s.setPrc b).cnt = s.cnt := rfl
@[simp] theorem State.setPrc_pending (s : State) (b : Percussion) : (s.setPrc b).pending = s.pending := rfl

@[simp] theorem State.setRot_lnk (s : State) (b : RotorUnit) : (s.setRot b).lnk = s.lnk := rfl
@[simp] theorem State.setRot_req (s : State) (b : RotorUnit) : (s.setRot b).req = s.req := rfl
@[simp] theorem State.setRot_tab (s : State) (b : RotorUnit) : (s.setRot b).tab = s.tab := rfl
@[simp] theorem State.setRot_key (s : State) (b : RotorUnit) : (s.setRot b).key = s.key := rfl
@[simp] theorem State.setRot_seq (s : State) (b : RotorUnit) : (s.setRot b).seq = s.seq := rfl
@[simp] theorem State.setRot_bus (s : State) (b : RotorUnit) : (s.setRot b).bus = s.bus := rfl
@[simp] theorem State.setRot_eng (s : State) (b : RotorUnit) : (s.setRot b).eng = s.eng := rfl
@[simp] theorem State.setRot_reg (s : State) (b : RotorUnit) : (s.setRot b).reg = s.reg := rfl
@[simp] theorem State.setRot_prc (s : State) (b : RotorUnit) : (s.setRot b).prc = s.prc := rfl
@[simp] theorem State.setRot_rot (s : State) (b : RotorUnit) : (s.setRot b).rot = b := rfl
@[simp] theorem State.setRot_out (s : State) (b : RotorUnit) : (s.setRot b).out = s.out := rfl
@[simp] theorem State.setRot_flt (s : State) (b : RotorUnit) : (s.setRot b).flt = s.flt := rfl
@[simp] theorem State.setRot_cnt (s : State) (b : RotorUnit) : (s.setRot b).cnt = s.cnt := rfl
@[simp] theorem State.setRot_pending (s : State) (b : RotorUnit) : (s.setRot b).pending = s.pending := rfl

@[simp] theorem State.setOut_lnk (s : State) (b : OutputUnit) : (s.setOut b).lnk = s.lnk := rfl
@[simp] theorem State.setOut_req (s : State) (b : OutputUnit) : (s.setOut b).req = s.req := rfl
@[simp] theorem State.setOut_tab (s : State) (b : OutputUnit) : (s.setOut b).tab = s.tab := rfl
@[simp] theorem State.setOut_key (s : State) (b : OutputUnit) : (s.setOut b).key = s.key := rfl
@[simp] theorem State.setOut_seq (s : State) (b : OutputUnit) : (s.setOut b).seq = s.seq := rfl
@[simp] theorem State.setOut_bus (s : State) (b : OutputUnit) : (s.setOut b).bus = s.bus := rfl
@[simp] theorem State.setOut_eng (s : State) (b : OutputUnit) : (s.setOut b).eng = s.eng := rfl
@[simp] theorem State.setOut_reg (s : State) (b : OutputUnit) : (s.setOut b).reg = s.reg := rfl
@[simp] theorem State.setOut_prc (s : State) (b : OutputUnit) : (s.setOut b).prc = s.prc := rfl
@[simp] theorem State.setOut_rot (s : State) (b : OutputUnit) : (s.setOut b).rot = s.rot := rfl
@[simp] theorem State.setOut_out (s : State) (b : OutputUnit) : (s.setOut b).out = b := rfl
@[simp] theorem State.setOut_flt (s : State) (b : OutputUnit) : (s.setOut b).flt = s.flt := rfl
@[simp] theorem State.setOut_cnt (s : State) (b : OutputUnit) : (s.setOut b).cnt = s.cnt := rfl
@[simp] theorem State.setOut_pending (s : State) (b : OutputUnit) : (s.setOut b).pending = s.pending := rfl

@[simp] theorem State.setFlt_lnk (s : State) (b : FaultUnit) : (s.setFlt b).lnk = s.lnk := rfl
@[simp] theorem State.setFlt_req (s : State) (b : FaultUnit) : (s.setFlt b).req = s.req := rfl
@[simp] theorem State.setFlt_tab (s : State) (b : FaultUnit) : (s.setFlt b).tab = s.tab := rfl
@[simp] theorem State.setFlt_key (s : State) (b : FaultUnit) : (s.setFlt b).key = s.key := rfl
@[simp] theorem State.setFlt_seq (s : State) (b : FaultUnit) : (s.setFlt b).seq = s.seq := rfl
@[simp] theorem State.setFlt_bus (s : State) (b : FaultUnit) : (s.setFlt b).bus = s.bus := rfl
@[simp] theorem State.setFlt_eng (s : State) (b : FaultUnit) : (s.setFlt b).eng = s.eng := rfl
@[simp] theorem State.setFlt_reg (s : State) (b : FaultUnit) : (s.setFlt b).reg = s.reg := rfl
@[simp] theorem State.setFlt_prc (s : State) (b : FaultUnit) : (s.setFlt b).prc = s.prc := rfl
@[simp] theorem State.setFlt_rot (s : State) (b : FaultUnit) : (s.setFlt b).rot = s.rot := rfl
@[simp] theorem State.setFlt_out (s : State) (b : FaultUnit) : (s.setFlt b).out = s.out := rfl
@[simp] theorem State.setFlt_flt (s : State) (b : FaultUnit) : (s.setFlt b).flt = b := rfl
@[simp] theorem State.setFlt_cnt (s : State) (b : FaultUnit) : (s.setFlt b).cnt = s.cnt := rfl
@[simp] theorem State.setFlt_pending (s : State) (b : FaultUnit) : (s.setFlt b).pending = s.pending := rfl

@[simp] theorem State.setCnt_lnk (s : State) (b : Counters) : (s.setCnt b).lnk = s.lnk := rfl
@[simp] theorem State.setCnt_req (s : State) (b : Counters) : (s.setCnt b).req = s.req := rfl
@[simp] theorem State.setCnt_tab (s : State) (b : Counters) : (s.setCnt b).tab = s.tab := rfl
@[simp] theorem State.setCnt_key (s : State) (b : Counters) : (s.setCnt b).key = s.key := rfl
@[simp] theorem State.setCnt_seq (s : State) (b : Counters) : (s.setCnt b).seq = s.seq := rfl
@[simp] theorem State.setCnt_bus (s : State) (b : Counters) : (s.setCnt b).bus = s.bus := rfl
@[simp] theorem State.setCnt_eng (s : State) (b : Counters) : (s.setCnt b).eng = s.eng := rfl
@[simp] theorem State.setCnt_reg (s : State) (b : Counters) : (s.setCnt b).reg = s.reg := rfl
@[simp] theorem State.setCnt_prc (s : State) (b : Counters) : (s.setCnt b).prc = s.prc := rfl
@[simp] theorem State.setCnt_rot (s : State) (b : Counters) : (s.setCnt b).rot = s.rot := rfl
@[simp] theorem State.setCnt_out (s : State) (b : Counters) : (s.setCnt b).out = s.out := rfl
@[simp] theorem State.setCnt_flt (s : State) (b : Counters) : (s.setCnt b).flt = s.flt := rfl
@[simp] theorem State.setCnt_cnt (s : State) (b : Counters) : (s.setCnt b).cnt = b := rfl
@[simp] theorem State.setCnt_pending (s : State) (b : Counters) : (s.setCnt b).pending = s.pending := rfl

@[simp] theorem State.setPending_lnk (s : State) (b : List Instr) : (s.setPending b).lnk = s.lnk := rfl
@[simp] theorem State.setPending_req (s : State) (b : List Instr) : (s.setPending b).req = s.req := rfl
@[simp] theorem State.setPending_tab (s : State) (b : List Instr) : (s.setPending b).tab = s.tab := rfl
@[simp] theorem State.setPending_key (s : State) (b : List Instr) : (s.setPending b).key = s.key := rfl
@[simp] theorem State.setPending_seq (s : State) (b : List Instr) : (s.setPending b).seq = s.seq := rfl
@[simp] theorem State.setPending_bus (s : State) (b : List Instr) : (s.setPending b).bus = s.bus := rfl
@[simp] theorem State.setPending_eng (s : State) (b : List Instr) : (s.setPending b).eng = s.eng := rfl
@[simp] theorem State.setPending_reg (s : State) (b : List Instr) : (s.setPending b).reg = s.reg := rfl
@[simp] theorem State.setPending_prc (s : State) (b : List Instr) : (s.setPending b).prc = s.prc := rfl
@[simp] theorem State.setPending_rot (s : State) (b : List Instr) : (s.setPending b).rot = s.rot := rfl
@[simp] theorem State.setPending_out (s : State) (b : List Instr) : (s.setPending b).out = s.out := rfl
@[simp] theorem State.setPending_flt (s : State) (b : List Instr) : (s.setPending b).flt = s.flt := rfl
@[simp] theorem State.setPending_cnt (s : State) (b : List Instr) : (s.setPending b).cnt = s.cnt := rfl
@[simp] theorem State.setPending_pending (s : State) (b : List Instr) : (s.setPending b).pending = b := rfl

end Sys2Proof.Machine
end

