-- ==== Sys2Proof/Laws/Audio.lean ====
section
/-!
SUPPORT. What the operations of the sound of a tick give: sums, products and lines as plain rational
arithmetic, and what the engines' rendering leaves (Machine/Audio.lean).
-/

namespace Sys2Proof.Machine

/-! ### Arithmetic -/

theorem scaled_eq_mul (x gain : Sample) : scaled x gain = x * gain := by
  unfold scaled
  split
  · next h => rw [h, zero_mul]
  · rfl

theorem mix_foldl (xs : List Sample) (a : Sample) : xs.foldl (fun a x => a + x) a = a + xs.sum := by
  induction xs generalizing a with
  | nil => simp
  | cons x xs ih => rw [List.foldl_cons, ih, List.sum_cons, add_assoc]

theorem mix_eq_sum (xs : List Sample) : mix xs = xs.sum := by
  rw [mix, mix_foldl, zero_add]

/-- A sum over a filtered list is a sum over the whole list with 0 for what is left out. -/
theorem sum_filter {α : Type} (l : List α) (p : α → Bool) (f : α → Rat) :
    ((l.filter p).map f).sum = (l.map (fun x => if p x then f x else 0)).sum := by
  induction l with
  | nil => rfl
  | cons x l ih =>
    rw [List.filter_cons, List.map_cons, List.sum_cons, ← ih]
    cases p x <;> simp

/-! ### Lines -/

theorem sampleAt_eq_getD (v : Vector Sample n) (age : Nat) : sampleAt v age = v.toList.getD age 0 := by
  simp [sampleAt, List.getD]

/-- A line takes its new sample at age 0 and loses its oldest. -/
theorem pushSample_toList (v : Vector Sample (n + 1)) (x : Sample) :
    (pushSample v x).toList = x :: v.toList.dropLast := by
  apply List.ext_getElem
  · simp
  · intro i h _
    rcases i with _ | i
    · simp [pushSample, tabulate]
    · have hi : i < n := by simpa using h
      simp [pushSample, tabulate, Nat.lt_succ_of_lt hi]

theorem delayedSample_eq_heardBack (v : Vector Sample n) (d : Nat) :
    delayedSample v d = heardBack v.toList d := by
  have h : d % 16 = d - 16 * (d / 16) := by omega
  simp only [delayedSample, heardBack, sampleAt_eq_getD, ← h]

/-! ### One engine renders -/

theorem renderEngine_leak (s : State) (a : Rendered) (e : EngineId)
    (h : a.cache.engines[e] = s.eng.engines[e]) :
    (s.renderEngine a e).leak = a.leak + s.leakOf e := by
  simp only [State.renderEngine, State.leakOf, h]
  split
  · simp_all [State.wheelWave, State.voicingLevel, State.wheelLevel, State.wheelWaveform, State.waveformOf, State.wheelShape, State.wheelPhase,
      State.wheelTime, over256]
  · split <;> simp_all [State.settlingWave, State.voicingLevel, State.wheelLevel, State.wheelWaveform,
      State.waveformOf, State.wheelShape, State.wheelPhase, State.wheelTime, over256]
  · simp_all

theorem renderEngine_others (s : State) (a : Rendered) (e e' : EngineId) (h : e' ≠ e) :
    (s.renderEngine a e).cache.engines[e'] = a.cache.engines[e'] := by
  have hv : e.val ≠ e'.val := fun x => h (Fin.ext x.symm)
  rw [State.renderEngine]
  cases (a.cache.engines[e]).state <;> cases (a.cache.engines[e]).wheel <;> dsimp only <;>
    try split
  all_goals simp [EngineCache.setEngine, hv]

theorem renderEngine_tone (s : State) (a : Rendered) (e : EngineId) (w : Wheel)
    (h : a.cache.engines[e] = s.eng.engines[e]) (hw : (s.eng.engines[e]).wheel = some w) :
    ((s.eng.engines[e]).state = .active →
      ((s.renderEngine a e).cache.engines[e]).tone = (s.wheelWave e w).1) ∧
    ((s.eng.engines[e]).state = .idle → (s.eng.engines[e]).settle ≠ 256 →
      ((s.renderEngine a e).cache.engines[e]).tone = (s.settlingWave e w).1) := by
  constructor
  · intro hs
    simp only [State.renderEngine, h, hs, hw]
    simp [EngineCache.setEngine, State.wheelWave, State.wheelWaveform, State.waveformOf, State.wheelShape, State.wheelPhase, State.wheelTime]
  · intro hs hn
    simp only [State.renderEngine, h, hs, hw, if_neg hn]
    simp [EngineCache.setEngine, State.settlingWave, State.wheelWaveform, State.waveformOf, State.wheelShape, State.wheelPhase, State.wheelTime]

theorem renderEngine_quiet (s : State) (a : Rendered) (e : EngineId) (w : Wheel)
    (h : a.cache.engines[e] = s.eng.engines[e])
    (hq : ¬ ((s.eng.engines[e]).state = .active ∧ (s.eng.engines[e]).wheel = some w)) :
    (s.renderEngine a e).signals[w] = a.signals[w] := by
  rw [← h] at hq
  rw [State.renderEngine]
  revert hq
  generalize a.cache.engines[e] = r
  intro hq
  rcases r with ⟨state, wheel, dirty, settle, next, tone, ticked⟩
  cases state <;> cases wheel <;> dsimp only <;> try split
  case active.some w' =>
    have hv : w'.val ≠ w.val := fun x => hq ⟨rfl, congrArg some (Fin.ext x)⟩
    simp [hv]
  all_goals rfl

theorem renderEngine_signal (s : State) (a : Rendered) (e : EngineId) (w : Wheel)
    (h : a.cache.engines[e] = s.eng.engines[e])
    (hs : (s.eng.engines[e]).state = .active) (hw : (s.eng.engines[e]).wheel = some w) :
    (s.renderEngine a e).signals[w] = (s.wheelWave e w).2 := by
  simp only [State.renderEngine, h, hs, hw]
  simp [State.wheelWave, State.wheelWaveform, State.waveformOf, State.wheelShape, State.wheelPhase, State.wheelTime]

/-! ### Engines one after another -/

theorem renderFold_others (s : State) (l : List EngineId) (a : Rendered) (e : EngineId) (h : e ∉ l) :
    (l.foldl s.renderEngine a).cache.engines[e] = a.cache.engines[e] := by
  induction l generalizing a with
  | nil => rfl
  | cons x l ih =>
    rw [List.foldl_cons, ih _ (fun m => h (.tail _ m)),
      renderEngine_others s a x e (fun m => h (m ▸ .head _))]

/-- What a run over some engines leaves: the leakage sum, each rendered tone and each wheel's signal, while
none of them has rendered before. -/
theorem renderFold_gives (s : State) (l : List EngineId) (nd : l.Nodup) (a : Rendered)
    (h : ∀ e ∈ l, a.cache.engines[e] = s.eng.engines[e]) :
    (l.foldl s.renderEngine a).leak = a.leak + (l.map s.leakOf).sum ∧
    (∀ e ∈ l, ∀ w, (s.eng.engines[e]).wheel = some w →
      ((s.eng.engines[e]).state = .active →
        ((l.foldl s.renderEngine a).cache.engines[e]).tone = (s.wheelWave e w).1) ∧
      ((s.eng.engines[e]).state = .idle → (s.eng.engines[e]).settle ≠ 256 →
        ((l.foldl s.renderEngine a).cache.engines[e]).tone = (s.settlingWave e w).1)) ∧
    (∀ w, (∀ e ∈ l, ¬ ((s.eng.engines[e]).state = .active ∧ (s.eng.engines[e]).wheel = some w)) →
      (l.foldl s.renderEngine a).signals[w] = a.signals[w]) ∧
    (∀ e ∈ l, ∀ w, (s.eng.engines[e]).state = .active → (s.eng.engines[e]).wheel = some w →
      (∀ e' : EngineId, (s.eng.engines[e']).state = .active → (s.eng.engines[e']).wheel = some w → e' = e) →
      (l.foldl s.renderEngine a).signals[w] = (s.wheelWave e w).2) := by
  induction l generalizing a with
  | nil => simp
  | cons x l ih =>
    have hx := h x (.head _)
    have ⟨hnx, hnd⟩ := List.nodup_cons.mp nd
    have ⟨leak, tone, quiet, signal⟩ := ih hnd (s.renderEngine a x) (fun e m => by
      rw [renderEngine_others s a x e (fun q => hnx (q ▸ m)), h e (.tail _ m)])
    refine ⟨?_, ?_, ?_, ?_⟩
    · rw [List.foldl_cons, leak, renderEngine_leak s a x hx, List.map_cons, List.sum_cons, add_assoc]
    · intro e m w hw
      rcases List.mem_cons.mp m with rfl | m
      · rw [List.foldl_cons, renderFold_others s l _ e hnx]
        exact renderEngine_tone s a e w hx hw
      · exact tone e m w hw
    · intro w q
      rw [List.foldl_cons, quiet w (fun e m => q e (.tail _ m)), renderEngine_quiet s a x w hx (q x (.head _))]
    · intro e m w hs hw unique
      rcases List.mem_cons.mp m with rfl | m
      · rw [List.foldl_cons, quiet w (fun e' m' p => hnx (unique e' p.1 p.2 ▸ m')),
          renderEngine_signal s a e w hx hs hw]
      · exact signal e m w hs hw unique

/-- Before any engine has rendered there is no signal. -/
theorem noSignal (w : Wheel) : (Vector.replicate 96 (0 : Sample))[w] = 0 := Vector.getElem_replicate _

/-! ### Busses, manuals and the scanner -/

theorem busSignal_eq_sum (s : State) (signals : Vector Sample 96) (row : BusRow) :
    s.busSignal signals row = ((List.finRange 96).map (fun w : Wheel => if s.bus.countOf row w = 0 then 0 else
      ((wordAt s.tab.busLoadCurve (min 16 (s.bus.countOf row w) - 1)).toNat : Rat) / 256
        * s.voicingLevel w * signals[w])).sum := by
  have hc : ∀ w : Wheel, (s.bus.counts[row])[w] = s.bus.countOf row w := fun _ => rfl
  simp only [State.busSignal, mix_eq_sum, sum_filter, hc]
  refine congrArg List.sum (List.map_congr_left ?_)
  intro w _
  by_cases h : s.bus.countOf row w = 0
  · simp_all
  · rw [if_neg h, if_pos (by simpa using h), scaled_eq_mul]
    simp only [State.loadGain, State.wheelLevel, State.voicingLevel, over256, Nat.min_comm]
    ring

theorem clickSum_eq_sum (s : State) (m : Manual) :
    s.clickSum m = ((s.bus.clicks.filter (fun p => p.manual == m)).map s.clickValue).sum := by
  rw [State.clickSum, mix_eq_sum]

theorem clickLevel_eq_entry (s : State) (m : Manual) :
    s.clickLevel m = (wordAt s.tab.playSettings m.toFin.val).toNat := by
  cases m <;> simp [State.clickLevel, State.playSetting, wordAt, Manual.toFin]

theorem scanned_eq_scannedOutput (s : State) (line : Vector Sample 64) (on : Bool) :
    s.scanned line on = s.scannedOutput line.toList on := by
  simp only [State.scanned, State.scannedOutput, sampleAt_eq_getD, delayedSample_eq_heardBack]
  cases on
  · simp
  · simp only [State.scannerDelay, State.playSetting, wordAt, sweep]
    generalize s.prc.inForce.mode = mode
    fin_cases mode <;> simp

theorem compensation_eq (s : State) : s.compensation = if s.prc.enable = true ∧ s.prc.soft = false then
    ((wordAt s.tab.playSettings 6).toNat : Rat) / 256 else 1 := by
  simp [State.compensation, over256, State.playSetting, wordAt]

/-- The drawbar mix as a sum over all nine busses, with 0 for a borrowed B9 (R121, R144, R145). -/
theorem drawbarMix_eq_sum (s : State) (signals : Vector Sample 96) (m : Manual) :
    s.drawbarMix signals m
      = ((List.finRange 9).map (fun n : Fin 9 =>
          if m = .upper ∧ s.prc.enable = true ∧ (wordAt s.tab.playSettings 12).toNat = 1 ∧ n = 8 then 0
          else ((wordAt s.tab.drawbarLaw ((s.reg.manualBars m)[n]).level).toNat : Rat) / 256
            * s.busSignal signals (busRow m n))).sum
        * (if m = .upper ∧ s.prc.enable = true ∧ s.prc.soft = false then
            ((wordAt s.tab.playSettings 6).toNat : Rat) / 256 else 1) := by
  have hb : s.borrow = true ↔ s.prc.enable = true ∧ (wordAt s.tab.playSettings 12).toNat = 1 := by
    simp [State.borrow, State.playSetting, wordAt]
  have h9 : List.finRange 9 = [0, 1, 2, 3, 4, 5, 6, 7, 8] := by decide
  simp only [State.drawbarMix, mix_eq_sum, scaled_eq_mul, State.mixedBusses, hb, h9, compensation_eq,
    State.drawbarGain, over256]
  by_cases hm : m = .upper
  · subst hm
    by_cases h : s.prc.enable = true ∧ (wordAt s.tab.playSettings 12).toNat = 1
    · simp [h, mul_comm]
    · simp only [true_and, ← and_assoc, h, false_and, if_false, if_true, mul_comm]
  · simp [hm, mul_comm]

theorem percussionSignal_eq (s : State) (signals : Vector Sample 96) :
    s.percussionSignal signals
      = s.busSignal signals 27 * ((s.prc.gain s.halvingPeriod : Rat) / 4095) := by
  simp only [State.percussionSignal, scaled_eq_mul, percussionRow]
  split
  · next h => simp [h]
  · rfl

theorem expressionGain_eq (s : State) : s.expressionGain
    = ((wordAt s.tab.expressionCurve s.reg.expression.toNat).toNat : Rat) / 256 := rfl

theorem leakageBed_eq (s : State) (leak : Sample) : s.leakageBed leak
    = leak * ((wordAt s.tab.playSettings 3).toNat / 1024) := by
  simp [State.leakageBed, scaled_eq_mul, State.playSetting, wordAt]

/-! ### The rotors -/

theorem rotorInput_eq_inputOf (s : State) (dry : Sample) : s.rotorInput dry = s.inputOf dry := by
  simp [State.rotorInput, State.inputOf, scaled_eq_mul, over256, State.rotorSetting, wordAt]

/-- A rotor signal as products and a sum, over its pickups (R162 to R164). -/
theorem rotorSignal_eq (s : State) (line : Vector Sample 33) (band : Sample) (mic : Mic) :
    s.rotorSignal line band mic
      = ((wordAt s.tab.rotorSettings 11).toNat : Rat) / 256
          * (heardBack line.toList (s.dopplerDelay mic) * s.amplitudeGain (s.hornFacing mic))
        + ((256 - (wordAt s.tab.rotorSettings 11).toNat : Nat) : Rat) / 256
          * (band * s.amplitudeGain (s.drumFacing mic)) := by
  simp only [State.rotorSignal, State.hornPickup, State.drumPickup, scaled_eq_mul,
    delayedSample_eq_heardBack, over256]
  have h : s.rotorSetting 11 = (wordAt s.tab.rotorSettings 11).toNat := rfl
  rw [h, mul_comm (_ * s.amplitudeGain (s.hornFacing mic)), mul_comm (_ * s.amplitudeGain (s.drumFacing mic))]

end Sys2Proof.Machine
end

