-- ==== Sys2Proof/Laws/Cosine.lean ====
section
/-!
SUPPORT. The model's facing is the cosine of its angle, to 1/2^64 (R162), exact at the quarter turns.
-/

namespace Sys2Proof.Machine

open Finset in
/-- The nested series is the sum it abbreviates. -/
theorem nestedSeries_eq_sum (x : ℝ) (y : Rat) (h : (y : ℝ) = x ^ 2) (n k : Nat) :
    ((nestedSeries y n k : Rat) : ℝ)
      = ∑ j ∈ range (n + 1), (-1) ^ j * x ^ (2 * j) * (k.factorial / (k + 2 * j).factorial) := by
  induction n generalizing k with
  | zero => simp [nestedSeries, Nat.factorial_ne_zero]
  | succ n ih =>
    rw [sum_range_succ', nestedSeries]
    push_cast
    rw [ih, h, sub_eq_neg_add]
    have hk : (k.factorial : ℝ) ≠ 0 := by positivity
    congr 1
    · rw [← neg_mul, mul_sum]
      refine sum_congr rfl fun j _ => ?_
      have e : k + 2 * (j + 1) = k + 2 + 2 * j := by ring
      rw [e, Nat.factorial_succ (k + 1), Nat.factorial_succ k]
      push_cast
      field_simp
      ring
    · simp [hk]

open Finset in
/-- The exponential's partial sum at an imaginary number, split into cosine and sine. -/
theorem expSum_imaginary (x : ℝ) (n : Nat) :
    ∑ m ∈ range (2 * n), ((x : ℂ) * Complex.I) ^ m / (m.factorial : ℂ)
      = ((∑ j ∈ range n, (-1) ^ j * x ^ (2 * j) * (1 / (2 * j).factorial) : ℝ) : ℂ)
        + ((x * ∑ j ∈ range n, (-1) ^ j * x ^ (2 * j) * (1 / (1 + 2 * j).factorial) : ℝ) : ℂ)
          * Complex.I := by
  induction n with
  | zero => simp
  | succ n ih =>
    rw [show 2 * (n + 1) = 2 * n + 1 + 1 from rfl, sum_range_succ, sum_range_succ, ih, sum_range_succ,
      sum_range_succ, add_comm 1 (2 * n)]
    have e : ((x : ℂ) * Complex.I) ^ (2 * n) = (-1) ^ n * (x : ℂ) ^ (2 * n) := by
      rw [mul_pow, pow_mul Complex.I, Complex.I_sq, mul_comm]
    rw [pow_succ, e]
    push_cast
    ring

/-- How far the exponential is from its first 22 terms, up to an eighth of a turn. -/
theorem expSum_bound (x : ℝ) (h : |x| ≤ 7855 / 10000) :
    ‖Complex.exp ((x : ℂ) * Complex.I)
      - ∑ m ∈ Finset.range (2 * 11), ((x : ℂ) * Complex.I) ^ m / (m.factorial : ℂ)‖ ≤ 1 / 2 ^ 75 := by
  have hn : ‖(x : ℂ) * Complex.I‖ = |x| := by simp
  have b := Complex.exp_bound (x := (x : ℂ) * Complex.I) (by rw [hn]; linarith)
    (n := 2 * 11) (by norm_num)
  refine b.trans ?_
  rw [hn]
  calc |x| ^ (2 * 11) * _ ≤ (7855 / 10000) ^ (2 * 11) *
        (((2 * 11 : Nat).succ : ℝ) * (((2 * 11 : Nat).factorial : ℝ) * ((2 * 11 : Nat) : ℝ))⁻¹) := by
        gcongr
    _ ≤ 1 / 2 ^ 75 := by norm_num [Nat.factorial]

/-- The cosine's series of the model, up to an eighth of a turn. -/
theorem nestedSeries_cos (x : ℝ) (y : Rat) (hy : (y : ℝ) = x ^ 2) (h : |x| ≤ 7855 / 10000) :
    |((nestedSeries y seriesLength 0 : Rat) : ℝ) - Real.cos x| ≤ 1 / 2 ^ 75 := by
  have b := (Complex.abs_re_le_norm _).trans (expSum_bound x h)
  rw [expSum_imaginary, Complex.exp_mul_I] at b
  rw [nestedSeries_eq_sum x y hy, abs_sub_comm, seriesLength, Nat.factorial_zero, Nat.cast_one]
  simp only [zero_add]
  generalize (∑ j ∈ Finset.range 11, (-1) ^ j * x ^ (2 * j) * (1 / ((2 * j).factorial : ℝ))) = c at b ⊢
  generalize x * (∑ j ∈ Finset.range 11, _) = r at b
  simpa [← Complex.ofReal_cos, ← Complex.ofReal_sin] using b

/-- The sine's series of the model, up to an eighth of a turn. -/
theorem nestedSeries_sin (x : ℝ) (y : Rat) (hy : (y : ℝ) = x ^ 2) (h : |x| ≤ 7855 / 10000) :
    |x * ((nestedSeries y seriesLength 1 : Rat) : ℝ) - Real.sin x| ≤ 1 / 2 ^ 75 := by
  have b := (Complex.abs_im_le_norm _).trans (expSum_bound x h)
  rw [expSum_imaginary, Complex.exp_mul_I] at b
  rw [nestedSeries_eq_sum x y hy, abs_sub_comm, seriesLength, Nat.factorial_one, Nat.cast_one]
  generalize (∑ j ∈ Finset.range 11, (-1) ^ j * x ^ (2 * j) * (1 / ((2 * j).factorial : ℝ))) = c at b
  generalize x * (∑ j ∈ Finset.range (10 + 1), _) = r at b ⊢
  simpa [← Complex.ofReal_cos, ← Complex.ofReal_sin] using b

/-! ### The facing -/

/-- Rounding moves a sample by at most half its step. -/
theorem roundSample_near (x : Rat) : |((roundSample x : Rat) : ℝ) - (x : ℝ)| ≤ 1 / 2 ^ 65 := by
  have h : |roundSample x - x| ≤ 1 / 2 ^ 65 := by
    have lo : ((x * 2 ^ 64 + 1 / 2).floor : Rat) ≤ x * 2 ^ 64 + 1 / 2 := Int.floor_le _
    have hi : x * 2 ^ 64 + 1 / 2 < ((x * 2 ^ 64 + 1 / 2).floor : Rat) + 1 := Int.lt_floor_add_one _
    rw [roundSample, abs_le]
    constructor
    · rw [neg_le_sub_iff_le_add, div_add_div _ _ (by norm_num) (by norm_num), le_div_iff₀ (by norm_num)]
      linarith
    · rw [sub_le_iff_le_add, div_le_iff₀ (by norm_num)]
      linarith
  have h' : ((|roundSample x - x| : Rat) : ℝ) ≤ ((1 / 2 ^ 65 : Rat) : ℝ) := Rat.cast_le.mpr h
  push_cast at h'
  exact h'

/-- Pi to twenty decimals. -/
theorem piDecimal_near : |((piDecimal : Rat) : ℝ) - Real.pi| ≤ 1 / 10 ^ 20 := by
  have lo := Real.pi_gt_d20
  have hi := Real.pi_lt_d20
  rw [piDecimal, abs_le]
  push_cast
  constructor <;> linarith

/-- An angle of n/2^24 of a turn, up to an eighth, with pi to twenty decimals. -/
theorem smallAngle_near (n : Nat) (h : n ≤ 2097152) :
    let x : Rat := (n : Rat) * piDecimal / 8388608
    |((x : Rat) : ℝ)| ≤ 7855 / 10000 ∧ |((x : Rat) : ℝ) - n * Real.pi / 8388608| ≤ 1 / (4 * 10 ^ 20) := by
  have hn : (n : ℝ) ≤ 2097152 := by exact_mod_cast h
  have h0 : (0 : ℝ) ≤ n := by positivity
  constructor
  · have hp : ((piDecimal : Rat) : ℝ) ≤ 3.142 := by norm_num [piDecimal]
    have hq : (0 : ℝ) ≤ ((piDecimal : Rat) : ℝ) := by norm_num [piDecimal]
    push_cast
    rw [abs_of_nonneg (by positivity)]
    nlinarith
  · have e : (((n : Rat) * piDecimal / 8388608 : Rat) : ℝ) - n * Real.pi / 8388608
        = (n / 8388608) * (((piDecimal : Rat) : ℝ) - Real.pi) := by push_cast; ring
    rw [e, abs_mul, abs_of_nonneg (by positivity)]
    have hd : (n : ℝ) / 8388608 ≤ 1 / 4 := by linarith
    exact (mul_le_mul hd piDecimal_near (abs_nonneg _) (by norm_num)).trans (by norm_num)

/-- Two steps of approximation and a rounding. -/
theorem near_of_steps {a b c d : ℝ} (ab : |a - b| ≤ 1 / 2 ^ 65) (bc : |b - c| ≤ 1 / 2 ^ 75)
    (cd : |c - d| ≤ 1 / (4 * 10 ^ 20)) : |a - d| ≤ 1 / 2 ^ 64 := by
  have h := (abs_sub_le a b d).trans (add_le_add ab ((abs_sub_le b c d).trans (add_le_add bc cd)))
  exact h.trans (by norm_num)

/-- The first quarter's cosine. -/
theorem quarterCosine_near (q : Nat) (h : q ≤ 4194304) :
    |((quarterCosine q : Rat) : ℝ) - Real.cos (q * Real.pi / 8388608)| ≤ 1 / 2 ^ 64 := by
  unfold quarterCosine
  split
  · next hq =>
    obtain ⟨small, near⟩ := smallAngle_near q hq
    refine near_of_steps (roundSample_near _) (nestedSeries_cos _ _ (by push_cast; ring) small) ?_
    exact (Real.abs_cos_sub_cos_le _ _).trans near
  · obtain ⟨small, near⟩ := smallAngle_near (4194304 - q) (by omega)
    have e : Real.cos (q * Real.pi / 8388608) = Real.sin ((4194304 - q : Nat) * Real.pi / 8388608) := by
      rw [← Real.cos_pi_div_two_sub, Nat.cast_sub h]
      congr 1
      push_cast
      ring
    rw [e]
    have s := nestedSeries_sin _
      (((4194304 - q : Nat) : Rat) * piDecimal / 8388608 * (((4194304 - q : Nat) : Rat) * piDecimal / 8388608))
      (by push_cast; ring) small
    rw [← Rat.cast_mul] at s
    refine near_of_steps (roundSample_near _) s ?_
    exact (Real.abs_sin_sub_sin_le _ _).trans near

/-- The cosine of an angle of n/2^24 of a turn, to 1/2^64. -/
theorem turnCosine_near (a : BitVec 24) :
    |((turnCosine a : Rat) : ℝ) - Real.cos (2 * Real.pi * (a.toNat / 16777216))| ≤ 1 / 2 ^ 64 := by
  have hlt := a.isLt
  rw [show 2 * Real.pi * (a.toNat / 16777216) = a.toNat * Real.pi / 8388608 by ring, turnCosine]
  generalize a.toNat = n at *
  split_ifs with h1 h2 h3
  · exact quarterCosine_near n h1
  · have h := quarterCosine_near (8388608 - n) (by omega)
    rw [Nat.cast_sub h2, show ((8388608 : Nat) - n : ℝ) * Real.pi / 8388608 = Real.pi - n * Real.pi / 8388608 by
      push_cast; ring, Real.cos_pi_sub] at h
    rw [abs_sub_comm]
    push_cast
    simpa [sub_eq_add_neg, add_comm] using h
  · have h := quarterCosine_near (n - 8388608) (by omega)
    rw [Nat.cast_sub (by omega), show (n - (8388608 : Nat) : ℝ) * Real.pi / 8388608
      = n * Real.pi / 8388608 - Real.pi by push_cast; ring, Real.cos_sub_pi] at h
    rw [abs_sub_comm]
    push_cast
    simpa [sub_eq_add_neg, add_comm] using h
  · have h := quarterCosine_near (16777216 - n) (by omega)
    rwa [Nat.cast_sub (by omega), show ((16777216 : Nat) - n : ℝ) * Real.pi / 8388608
      = 2 * Real.pi - n * Real.pi / 8388608 by push_cast; ring, Real.cos_two_pi_sub] at h

/-- The sine of a phase, to 1/2^64 (R87). -/
theorem sine_near (a : BitVec 24) :
    |((sine a : Rat) : ℝ) - Real.sin (2 * Real.pi * (a.toNat / 16777216))| ≤ 1 / 2 ^ 64 := by
  have h := turnCosine_near (a - 4194304)
  have hlt := a.isLt
  have e : Real.cos (2 * Real.pi * ((a - 4194304).toNat / 16777216))
      = Real.sin (2 * Real.pi * (a.toNat / 16777216)) := by
    rw [← Real.cos_sub_pi_div_two]
    have n : (a - 4194304).toNat = if 4194304 ≤ a.toNat then a.toNat - 4194304 else a.toNat + 12582912 := by
      rw [BitVec.toNat_sub]
      simp
      split <;> omega
    rw [n]
    split
    · next h4 =>
      rw [Nat.cast_sub h4]
      congr 1
      push_cast
      ring
    · rw [← Real.cos_sub_two_pi]
      congr 1
      push_cast
      ring
  rwa [e] at h

/-- The facing is the cosine of its angle as a fraction of a full turn, to 1/2^64 (R162). -/
theorem facing_near (a : Word) :
    |((facing a : Rat) : ℝ) - Real.cos (2 * Real.pi * (a.toNat / 65536))| ≤ 1 / 2 ^ 64 := by
  have h := turnCosine_near (BitVec.ofNat 24 (a.toNat * 256))
  have hlt := a.isLt
  rw [BitVec.toNat_ofNat, Nat.mod_eq_of_lt (by omega), Nat.cast_mul] at h
  have e : ((a.toNat : ℝ) * ((256 : Nat) : ℝ)) / 16777216 = a.toNat / 65536 := by
    push_cast
    ring
  rwa [e] at h

/-- The facing at the quarter turns. -/
theorem facing_quarters : facing 0 = 1 ∧ facing 16384 = 0 ∧ facing 32768 = -1 ∧ facing 49152 = 0 := by
  decide +kernel

/-- Half a turn on, the cosine is the opposite one. -/
theorem turnCosine_opposite (a : BitVec 24) : turnCosine (a + 8388608) = -turnCosine a := by
  have e : (a + 8388608).toNat = if a.toNat < 8388608 then a.toNat + 8388608 else a.toNat - 8388608 := by
    rw [BitVec.toNat_add]
    have := a.isLt
    split <;> simp <;> omega
  have := a.isLt
  simp only [turnCosine, e]
  generalize a.toNat = n at *
  by_cases h : n < 8388608
  · rw [if_pos h]
    by_cases h1 : n ≤ 4194304
    · by_cases h0 : n = 0
      · rw [h0, if_neg (by omega), if_pos (by omega), if_pos (by omega)]
      · rw [if_neg (by omega), if_neg (by omega), if_pos (by omega), if_pos h1, Nat.add_sub_cancel]
    · rw [if_neg (by omega), if_neg (by omega), if_neg (by omega), if_neg h1, if_pos (by omega), neg_neg,
        show 16777216 - (n + 8388608) = 8388608 - n by omega]
  · rw [if_neg h]
    by_cases h1 : n = 8388608
    · rw [h1, if_pos (by omega), if_neg (by omega), if_pos (by omega), neg_neg]
    · by_cases h2 : n ≤ 12582912
      · rw [if_pos (by omega), if_neg (by omega), if_neg (by omega), if_pos h2, neg_neg]
      · rw [if_neg (by omega), if_pos (by omega), if_neg (by omega), if_neg (by omega), if_neg h2,
          show 8388608 - (n - 8388608) = 16777216 - n by omega]

/-- Half a turn on, the facing is the opposite one: the two microphones hear opposite facings (R162). -/
theorem facing_opposite (a : Word) : facing (a + 32768) = -facing a := by
  rw [facing, facing, ← turnCosine_opposite]
  refine congrArg turnCosine (BitVec.eq_of_toNat_eq ?_)
  have := a.isLt
  have w : (32768 : Word).toNat = 32768 := rfl
  have b : (8388608 : BitVec 24).toNat = 8388608 := rfl
  rw [BitVec.toNat_ofNat, BitVec.toNat_add, BitVec.toNat_add, BitVec.toNat_ofNat, w, b]
  omega

end Sys2Proof.Machine
end

