-- ==== Sys2Proof/Laws/Crossover.lean ====
section
/-!
SUPPORT. What the law of the crossover's filter says of every tone: the filter has one corner, at 1/60 of the
tick rate, and is a low-pass filter about it (R161).
-/

namespace Sys2Proof.Machine

/-! ### The recursion -/

/-- One tick of a filter as sums and products. -/
theorem Biquad.run_eq (f : Biquad) (m : CrossoverState) (x : Sample) :
    f.run m x = (⟨x * f.b1 - (x * f.b0 + m.first) * f.a1 + m.second,
      x * f.b2 - (x * f.b0 + m.first) * f.a2⟩, x * f.b0 + m.first) := by
  simp only [Biquad.run, scaled_eq_mul]

/-- Each output is made of the last three inputs and the last two outputs. -/
theorem Biquad.run_recursion (f : Biquad) (m : CrossoverState) (x₀ x₁ x₂ : Sample) :
    let r₀ := f.run m x₀
    let r₁ := f.run r₀.1 x₁
    let r₂ := f.run r₁.1 x₂
    r₂.2 = f.b0 * x₂ + f.b1 * x₁ + f.b2 * x₀ - f.a1 * r₁.2 - f.a2 * r₀.2 := by
  simp only [Biquad.run_eq]
  ring

/-- Silence at rest stays silence and rest. -/
theorem Biquad.run_rest (f : Biquad) : f.run CrossoverState.rest 0 = (CrossoverState.rest, 0) := by
  simp [Biquad.run_eq, CrossoverState.rest]

/-! ### The gain -/

/-- A polynomial's squared norm on the unit circle, over the cosine of the angle. -/
def circleNorm (p q r c : ℝ) : ℝ :=
  p ^ 2 + q ^ 2 + r ^ 2 + 2 * q * (p + r) * c + 2 * p * r * (2 * c ^ 2 - 1)

/-- It is the squared norm of the polynomial at the point of the unit circle an angle back. -/
theorem sq_norm_circle (p q r angle : ℝ) :
    ‖(p : ℂ) + q * Complex.exp (-(angle * Complex.I)) + r * Complex.exp (-(angle * Complex.I)) ^ 2‖ ^ 2
      = circleNorm p q r (Real.cos angle) := by
  unfold circleNorm
  have e : Complex.exp (-(angle * Complex.I))
      = ((Real.cos angle : ℝ) : ℂ) - ((Real.sin angle : ℝ) : ℂ) * Complex.I := by
    rw [← neg_mul, Complex.exp_mul_I, Complex.cos_neg, Complex.sin_neg, Complex.ofReal_cos,
      Complex.ofReal_sin]
    ring
  have h := Real.sin_sq_add_cos_sq angle
  rw [e]
  generalize Real.cos angle = c at *
  generalize Real.sin angle = s at *
  have e2 : (p : ℂ) + q * ((c : ℂ) - s * Complex.I) + r * ((c : ℂ) - s * Complex.I) ^ 2
      = ((p + q * c + r * (c ^ 2 - s ^ 2) : ℝ) : ℂ) + ((-(q * s) - 2 * r * c * s : ℝ) : ℂ) * Complex.I := by
    push_cast
    linear_combination (r : ℂ) * s ^ 2 * Complex.I_sq
  rw [e2, Complex.sq_norm, Complex.normSq_add_mul_I]
  have hs : s ^ 2 = 1 - c ^ 2 := by linarith
  linear_combination (q ^ 2 + 2 * q * r * c + 2 * r ^ 2 * c ^ 2 - 2 * r * p + r ^ 2 * (s ^ 2 + 1 - c ^ 2)) * hs

/-- The numerator of a filter's squared gain. -/
def Biquad.above (f : Biquad) (c : ℝ) : ℝ := circleNorm f.b0 f.b1 f.b2 c

/-- The denominator of a filter's squared gain. -/
def Biquad.below (f : Biquad) (c : ℝ) : ℝ := circleNorm 1 f.a1 f.a2 c

/-- A filter's gain, squared, over the cosine of a tone's angle. -/
theorem Biquad.gain_sq (f : Biquad) (angle : ℝ) :
    f.gain angle ^ 2 = f.above (Real.cos angle) / f.below (Real.cos angle) := by
  have n := sq_norm_circle f.b0 f.b1 f.b2 angle
  have d := sq_norm_circle 1 f.a1 f.a2 angle
  push_cast at n d
  rw [Biquad.gain, div_pow, Biquad.above, Biquad.below, ← n, ← d]

/-- A filter answers a tone with the tone at its gain: with z the tone's turn in a tick, the outputs H z^n to
the inputs z^n satisfy the recursion, where H is the ratio whose norm the gain is. -/
theorem Biquad.tone (f : Biquad) (z H : ℂ)
    (h : H * (z ^ 2 + f.a1 * z + f.a2) = f.b0 * z ^ 2 + f.b1 * z + f.b2) (n : Nat) :
    H * z ^ (n + 2) = f.b0 * z ^ (n + 2) + f.b1 * z ^ (n + 1) + f.b2 * z ^ n
      - f.a1 * (H * z ^ (n + 1)) - f.a2 * (H * z ^ n) := by
  linear_combination z ^ n * h

/-! ### The poles -/

/-- In the triangle of stability both poles lie within the unit circle. -/
theorem norm_pole_lt_one {a b : ℝ} (h1 : b < 1) (h2 : a < 1 + b) (h3 : -a < 1 + b) {z : ℂ}
    (hz : z ^ 2 + a * z + b = 0) : ‖z‖ < 1 := by
  obtain ⟨x, y⟩ := z
  have re := congrArg Complex.re hz
  have im := congrArg Complex.im hz
  simp [pow_two] at re im
  rw [← sq_lt_one_iff₀ (norm_nonneg _), Complex.sq_norm, Complex.normSq_mk]
  have hy : y * (2 * x + a) = 0 := by linarith
  rcases mul_eq_zero.mp hy with rfl | ha
  · have hx : x * x + a * x + b = 0 := by linarith
    have : |x| < 1 := by
      rw [abs_lt]
      constructor <;> by_contra hc <;> rw [not_lt] at hc <;> nlinarith
    nlinarith [abs_lt.mp this]
  · nlinarith

/-- What a filter of the crossover holds dies away. -/
theorem Biquad.IsCrossover.pole_lt_one {f : Biquad} (h : f.IsCrossover) {z : ℂ}
    (hz : z ^ 2 + f.a1 * z + f.a2 = 0) : ‖z‖ < 1 := by
  obtain ⟨h1, h2, h3⟩ := h.settles
  exact norm_pole_lt_one (a := (f.a1 : ℝ)) (b := (f.a2 : ℝ)) (by exact_mod_cast h1) (by exact_mod_cast h2)
    (by exact_mod_cast h3) (by push_cast; exact hz)

/-! ### The corner -/

/-- A real quadratic's values. -/
def quadratic (p q r c : ℝ) : ℝ := p * c ^ 2 + q * c + r

/-- A quadratic that is negative at -1 and at lo and positive at hi and at 1 changes sign once in between. -/
theorem quadratic_one_sign_change {p q r lo hi : ℝ} (h0 : -1 ≤ lo) (h : lo ≤ hi) (h1 : hi ≤ 1)
    (n1 : quadratic p q r (-1) < 0) (nlo : quadratic p q r lo < 0) (phi : 0 < quadratic p q r hi)
    (p1 : 0 < quadratic p q r 1) :
    ∃ k, lo < k ∧ k < hi ∧ quadratic p q r k = 0 ∧ ∀ c, -1 ≤ c → c ≤ 1 →
      (c < k → quadratic p q r c < 0) ∧ (k < c → 0 < quadratic p q r c) := by
  obtain ⟨k, ⟨hlo, hhi⟩, hk⟩ : (0 : ℝ) ∈ quadratic p q r '' Set.Ioo lo hi :=
    intermediate_value_Ioo h (by unfold quadratic; fun_prop) ⟨nlo, phi⟩
  refine ⟨k, hlo, hhi, hk, fun c c0 c1 => ?_⟩
  have factor : ∀ x, quadratic p q r x = (x - k) * (p * (x + k) + q) := fun x => by
    unfold quadratic at hk ⊢
    linear_combination hk
  rw [factor] at n1 p1 ⊢
  have f1 : 0 < p * (1 + k) + q := (pos_iff_pos_of_mul_pos p1).mp (by linarith)
  have f0 : 0 < p * (-1 + k) + q := by nlinarith
  have fc : 0 < p * (c + k) + q := by
    have g1 := mul_nonneg (by linarith : 0 ≤ 1 + c) f1.le
    have g0 := mul_nonneg (by linarith : 0 ≤ 1 - c) f0.le
    rcases le_total c 0 with hc | hc
    · linarith [mul_nonneg (neg_nonneg.mpr hc) f0.le]
    · linarith [mul_nonneg hc f1.le]
  exact ⟨fun hc => mul_neg_of_neg_of_pos (by linarith) fc, fun hc => mul_pos (by linarith) fc⟩

/-- How much more than half of a tone's power a filter passes, over the reals. -/
theorem Biquad.overHalf_eq (f : Biquad) (c : Rat) :
    ((f.overHalf c : Rat) : ℝ) = 2 * f.above (c : ℝ) - f.below (c : ℝ) := by
  simp only [Biquad.overHalf, squaredNorm, Biquad.above, Biquad.below, circleNorm]
  push_cast
  ring

/-- It is a quadratic in the cosine of the tone's angle. -/
theorem Biquad.excess_eq_quadratic (f : Biquad) : ∃ p q r, ∀ c : ℝ,
    2 * f.above c - f.below c = quadratic p q r c :=
  ⟨4 * (2 * f.b0 * f.b2 - f.a2), 2 * (2 * f.b1 * (f.b0 + f.b2) - f.a1 * (1 + f.a2)),
    2 * (f.b0 ^ 2 + f.b1 ^ 2 + f.b2 ^ 2 - 2 * f.b0 * f.b2) - (1 + f.a1 ^ 2 + f.a2 ^ 2 - 2 * f.a2), fun c => by
    simp only [Biquad.above, Biquad.below, circleNorm, quadratic]
    ring⟩

/-- The cosine of 1/60 of a turn lies between the two multiples of 1/2^64. -/
theorem corner_between : ((cornerBelow : Rat) : ℝ) < Real.cos (2 * Real.pi / 60) ∧
    Real.cos (2 * Real.pi / 60) < ((cornerAbove : Rat) : ℝ) := by
  have hp := piDecimal_near
  have c := nestedSeries_cos (((piDecimal / 30 : Rat) : ℝ)) (piDecimal / 30 * (piDecimal / 30))
    (by push_cast; ring) (by norm_num [piDecimal])
  have d : |((nestedSeries (piDecimal / 30 * (piDecimal / 30)) seriesLength 0 : Rat) : ℝ)
      - Real.cos (2 * Real.pi / 60)| ≤ 1 / 2 ^ 70 := by
    have e := Real.abs_cos_sub_cos_le (((piDecimal / 30 : Rat) : ℝ)) (2 * Real.pi / 60)
    have e2 : (((piDecimal / 30 : Rat) : ℝ)) - 2 * Real.pi / 60 = (((piDecimal : Rat) : ℝ) - Real.pi) / 30 := by
      push_cast
      ring
    rw [e2, abs_div] at e
    norm_num at e
    have := abs_sub_le ((nestedSeries (piDecimal / 30 * (piDecimal / 30)) seriesLength 0 : Rat) : ℝ)
      (Real.cos (((piDecimal / 30 : Rat) : ℝ))) (Real.cos (2 * Real.pi / 60))
    have h : |((piDecimal : Rat) : ℝ) - Real.pi| / 30 ≤ 1 / 10 ^ 20 / 30 := by gcongr
    push_cast at *
    linarith
  have lo : cornerBelow + 1 / 2 ^ 70 < nestedSeries (piDecimal / 30 * (piDecimal / 30)) seriesLength 0 := by
    decide +kernel
  have hi : nestedSeries (piDecimal / 30 * (piDecimal / 30)) seriesLength 0 < cornerAbove - 1 / 2 ^ 70 := by
    decide +kernel
  have lo' := (Rat.cast_lt (K := ℝ)).mpr lo
  have hi' := (Rat.cast_lt (K := ℝ)).mpr hi
  push_cast at lo' hi' d
  obtain ⟨d1, d2⟩ := abs_le.mp d
  constructor <;> linarith

/-- An angle whose cosine lies within 1/2^64 of that of 1/60 of a turn lies within 1/2^60 of it. -/
theorem corner_near {angle : ℝ} (h0 : 0 ≤ angle) (hpi : angle ≤ Real.pi)
    (h : |Real.cos angle - Real.cos (2 * Real.pi / 60)| ≤ 1 / 2 ^ 64) :
    |angle - 2 * Real.pi / 60| ≤ 1 / 2 ^ 60 := by
  have p0 := Real.pi_gt_three
  have p1 := Real.pi_lt_four
  set t : ℝ := 2 * Real.pi / 60 with ht
  have t0 : 0.1 ≤ t := by rw [ht]; linarith
  have t1 : t ≤ 0.14 := by rw [ht]; linarith
  have s0 : 0.099 ≤ Real.sin t := by
    have := Real.sin_gt_sub_cube (by linarith : 0 < t)
    nlinarith [mul_nonneg (by linarith : 0 ≤ t) (by linarith : 0 ≤ t), pow_le_pow_left₀ (by linarith) t1 2]
  obtain ⟨hl, hu⟩ := abs_le.mp h
  set e : ℝ := 1 / 2 ^ 60 with he
  have e0 : 0 < e := by positivity
  have es : 0.9 * e ≤ Real.sin e := by
    have := Real.sin_gt_sub_cube e0
    have e1 : e ^ 2 ≤ 0.1 := by rw [he]; norm_num
    nlinarith
  have ec := Real.cos_le_one e
  have ec' := Real.one_sub_sq_div_two_le_cos (x := e)
  have ct := Real.cos_le_one t
  have ct0 : 0 ≤ Real.cos t := Real.cos_nonneg_of_neg_pi_div_two_le_of_le (by linarith) (by linarith)
  have small : 1 / 2 ^ 64 + e ^ 2 / 2 < 0.099 * (0.9 * e) := by rw [he]; norm_num
  have prod : 0.099 * (0.9 * e) ≤ Real.sin t * Real.sin e :=
    mul_le_mul s0 es (by positivity) (by linarith)
  have gap : 1 / 2 ^ 64 < Real.sin t * Real.sin e - e ^ 2 / 2 := by linarith
  have loss : Real.cos t - e ^ 2 / 2 ≤ Real.cos t * Real.cos e := by
    nlinarith [mul_nonneg ct0 (sub_nonneg.mpr ec'), mul_nonneg (sub_nonneg.mpr ct) (sq_nonneg e)]
  have less : Real.cos t * Real.cos e ≤ Real.cos t := mul_le_of_le_one_right ct0 ec
  have e2 := sq_nonneg e
  have ePi : e ≤ 0.1 := by rw [he]; norm_num
  clear_value e t
  rw [abs_le]
  constructor <;> by_contra hc <;> rw [not_le] at hc
  · have c := Real.strictAntiOn_cos ⟨h0, hpi⟩ ⟨by linarith, by linarith⟩ (show angle < t - e by linarith)
    rw [Real.cos_sub] at c
    linarith
  · have c := Real.strictAntiOn_cos ⟨by linarith, by linarith⟩ ⟨h0, hpi⟩ (show t + e < angle by linarith)
    rw [Real.cos_add] at c
    linarith

/-- A filter that settles lets no tone's denominator vanish. -/
theorem Biquad.IsCrossover.below_pos {f : Biquad} (h : f.IsCrossover) (angle : ℝ) :
    0 < f.below (Real.cos angle) := by
  have d := sq_norm_circle 1 f.a1 f.a2 angle
  push_cast at d
  rw [Biquad.below, ← d]
  refine pow_pos (norm_pos_iff.mpr fun hz => ?_) 2
  have turn : Complex.exp (-(angle * Complex.I)) * Complex.exp (angle * Complex.I) = 1 := by
    rw [← Complex.exp_add]
    simp
  have pole := h.pole_lt_one (z := Complex.exp (angle * Complex.I)) (by
    linear_combination Complex.exp (angle * Complex.I) ^ 2 * hz
      - ((f.a1 : ℂ) * Complex.exp (angle * Complex.I)
        + f.a2 * (Complex.exp (-(angle * Complex.I)) * Complex.exp (angle * Complex.I) + 1)) * turn)
  rw [Complex.norm_exp_ofReal_mul_I] at pole
  exact lt_irrefl _ pole

/-- A filter of the crossover passes a constant whole. -/
theorem Biquad.IsCrossover.above_one {f : Biquad} (h : f.IsCrossover) : f.above 1 = f.below 1 := by
  have n : (f.b0 : ℝ) + f.b1 + f.b2 = 1 + f.a1 + f.a2 := by exact_mod_cast h.constant
  simp only [Biquad.above, Biquad.below, circleNorm]
  linear_combination ((f.b0 : ℝ) + f.b1 + f.b2 + 1 + f.a1 + f.a2) * n

/-- More than half of a tone's power passes where the numerator outweighs half of the denominator. -/
theorem Biquad.IsCrossover.gain_excess {f : Biquad} (h : f.IsCrossover) (angle : ℝ) :
    f.gain angle ^ 2 - 1 / 2
      = (2 * f.above (Real.cos angle) - f.below (Real.cos angle)) / (2 * f.below (Real.cos angle)) := by
  have d := (h.below_pos angle).ne'
  rw [f.gain_sq]
  generalize f.above _ = n
  generalize f.below _ = m at *
  field_simp

/-- What the law of a crossover's filter comes to (R161). -/
theorem Biquad.IsCrossover.crossesOver {f : Biquad} (h : f.IsCrossover) : f.CrossesOver where
  recursion := f.run_recursion
  order := by
    rintro ⟨z, hb, ha⟩
    apply h.order
    have e : ((((f.b0 * f.a2 - f.b2) ^ 2 - (f.b0 * f.a1 - f.b1) * (f.b1 * f.a2 - f.b2 * f.a1) : Rat)) : ℂ)
        = 0 := by
      push_cast
      have l : ((f.b0 : ℂ) * f.a1 - f.b1) * z + (f.b0 * f.a2 - f.b2) = 0 := by
        linear_combination f.b0 * ha - hb
      have m : ((f.b0 : ℂ) * f.a2 - f.b2) * z + (f.b1 * f.a2 - f.b2 * f.a1) = 0 ∨ z = 0 := by
        by_cases hz : z = 0
        · exact Or.inr hz
        · left
          refine (mul_eq_zero.mp ?_).resolve_left hz
          linear_combination f.a2 * hb - f.b2 * ha
      rcases m with m | rfl
      · linear_combination ((f.b0 : ℂ) * f.a2 - f.b2) * l - ((f.b0 : ℂ) * f.a1 - f.b1) * m
      · have b2 : (f.b2 : ℂ) = 0 := by linear_combination hb
        have a2 : (f.a2 : ℂ) = 0 := by linear_combination ha
        rw [b2, a2]
        ring
    exact sub_eq_zero.mp (by exact_mod_cast e)
  settles := fun _ hz => h.pole_lt_one hz
  constant := by
    have g := f.gain_sq 0
    have d := h.below_pos 0
    rw [Real.cos_zero] at g d
    rw [h.above_one, div_self d.ne'] at g
    have g0 : 0 ≤ f.gain 0 := div_nonneg (norm_nonneg _) (norm_nonneg _)
    nlinarith
  corner := by
    obtain ⟨p, q, r, quad⟩ := f.excess_eq_quadratic
    have n1 : ((f.overHalf (-1) : Rat) : ℝ) < 0 := by exact_mod_cast h.fastest
    have nlo : ((f.overHalf cornerBelow : Rat) : ℝ) < 0 := by exact_mod_cast h.faster
    have phi : (0 : ℝ) < ((f.overHalf cornerAbove : Rat) : ℝ) := by exact_mod_cast h.slower
    have p1 : 0 < quadratic p q r 1 := by
      have d := h.below_pos 0
      rw [Real.cos_zero] at d
      rw [← quad, h.above_one]
      linarith
    rw [f.overHalf_eq, quad] at n1 nlo phi
    push_cast at n1
    obtain ⟨between, between'⟩ := corner_between
    have width : ((cornerAbove : Rat) : ℝ) - ((cornerBelow : Rat) : ℝ) = 1 / 2 ^ 64 := by
      norm_num [cornerAbove, cornerBelow]
    have hi1 : ((cornerAbove : Rat) : ℝ) ≤ 1 := by norm_num [cornerAbove]
    have lo1 : (-1 : ℝ) ≤ ((cornerBelow : Rat) : ℝ) := by norm_num [cornerBelow]
    obtain ⟨k, hlo, hhi, hk, sign⟩ := quadratic_one_sign_change lo1 (by linarith) hi1 n1 nlo phi p1
    have gain : ∀ angle, f.gain angle ^ 2 - 1 / 2
        = quadratic p q r (Real.cos angle) / (2 * f.below (Real.cos angle)) := fun angle => by
      rw [h.gain_excess, quad]
    have den : ∀ angle, 0 < 2 * f.below (Real.cos angle) := fun angle =>
      mul_pos two_pos (h.below_pos angle)
    have cosk : Real.cos (Real.arccos k) = k := Real.cos_arccos (by linarith) (by linarith)
    have mem : Real.arccos k ∈ Set.Icc 0 Real.pi := ⟨Real.arccos_nonneg k, Real.arccos_le_pi k⟩
    refine ⟨Real.arccos k, corner_near mem.1 mem.2 ?_, ?_, fun angle a0 a1 => ⟨fun lt => ?_, fun lt => ?_⟩⟩
    · rw [cosk, abs_le]
      constructor <;> linarith
    · have g := gain (Real.arccos k)
      rw [cosk, hk, zero_div] at g
      linarith
    · have c := Real.strictAntiOn_cos ⟨a0, a1⟩ mem lt
      rw [cosk] at c
      have g := div_pos ((sign _ (Real.neg_one_le_cos _) (Real.cos_le_one _)).2 c) (den angle)
      rw [← gain] at g
      linarith
    · have c := Real.strictAntiOn_cos mem ⟨a0, a1⟩ lt
      rw [cosk] at c
      have g := div_neg_of_neg_of_pos ((sign _ (Real.neg_one_le_cos _) (Real.cos_le_one _)).1 c) (den angle)
      rw [← gain] at g
      linarith

/-! ### The part's own filter -/

/-- The crossover of the part: its filter is one by its type (R161). -/
theorem crossoverFilter_crossesOver : Config.crossoverFilter.biquad.CrossesOver :=
  Config.crossoverFilter.lawful.crossesOver

/-- One tick of the crossover as sums and products. -/
theorem crossover_eq (m : CrossoverState) (x : Sample) :
    let f := Config.crossoverFilter.biquad
    crossover m x = (⟨x * f.b1 - (x * f.b0 + m.first) * f.a1 + m.second,
      x * f.b2 - (x * f.b0 + m.first) * f.a2⟩, x * f.b0 + m.first) :=
  Biquad.run_eq _ m x

/-- The drum band and the crossover's memory of a tick (R161). -/
theorem formAudio_crossover (s : State) :
    let f := Config.crossoverFilter.biquad
    let input := s.inputOf s.formAudio.2.dry
    let band := s.formAudio.2.drumBand
    band = input * f.b0 + s.rot.crossover.first ∧
      s.formAudio.1.rot.crossover
        = ⟨input * f.b1 - band * f.a1 + s.rot.crossover.second, input * f.b2 - band * f.a2⟩ := by
  simp only [State.formAudio, rotorInput_eq_inputOf, crossover_eq]
  exact ⟨trivial, rfl⟩

/-- Silence at rest stays silence and rest. -/
theorem crossover_rest : crossover CrossoverState.rest 0 = (CrossoverState.rest, 0) :=
  Biquad.run_rest _

end Sys2Proof.Machine
end

