-- ==== Sys2Proof/Laws/Frames.lean ====
section
/-!
SUPPORT. The algebra of frames: what a replaced part leaves unchanged, and how frames compose.
-/

namespace Sys2Proof.Machine

namespace Frame

theorem refl (l : List Block) (s : State) : Frame l s s := by constructor <;> simp

theorem trans {l : List Block} {s t u : State} (h : Frame l s t) (k : Frame l t u) : Frame l s u := by
  constructor
  · intro n
    calc { u.lnk with replies := s.lnk.replies, replyHeld := s.lnk.replyHeld }
        = { ({ u.lnk with replies := t.lnk.replies, replyHeld := t.lnk.replyHeld } : LinkUnit) with
            replies := s.lnk.replies, replyHeld := s.lnk.replyHeld } := rfl
      _ = { t.lnk with replies := s.lnk.replies, replyHeld := s.lnk.replyHeld } := by rw [k.lnk n]
      _ = s.lnk := h.lnk n
  · exact fun n => (k.replies n).trans (h.replies n)
  · exact fun n => (k.place n).trans (h.place n)
  · exact fun n => (k.req n).trans (h.req n)
  · exact fun n => (k.tab n).trans (h.tab n)
  · exact fun n => (k.key n).trans (h.key n)
  · exact fun n => (k.hold n).trans (h.hold n)
  · exact fun n => (k.seq n).trans (h.seq n)
  · exact fun n => (k.tick n).trans (h.tick n)
  · exact fun n => (k.bus n).trans (h.bus n)
  · exact fun n => (k.eng n).trans (h.eng n)
  · exact fun n => (k.reg n).trans (h.reg n)
  · exact fun n => (k.prc n).trans (h.prc n)
  · exact fun n => (k.rot n).trans (h.rot n)
  · intro n
    calc { u.out with muteRequest := s.out.muteRequest }
        = { ({ u.out with muteRequest := t.out.muteRequest } : OutputUnit) with muteRequest := s.out.muteRequest } := rfl
      _ = { t.out with muteRequest := s.out.muteRequest } := by rw [k.out n]
      _ = s.out := h.out n
  · exact fun n => (k.mute n).trans (h.mute n)
  · exact fun n => (k.flt n).trans (h.flt n)
  · exact fun n => (k.cnt n).trans (h.cnt n)
  · exact k.pending.trans h.pending

theorem mono {a b : List Block} {s t : State} (h : Frame a s t) (sub : ∀ x ∈ a, x ∈ b) :
    Frame b s t := by
  constructor
  · exact fun n => h.lnk fun m => n (sub _ m)
  · exact fun n => h.replies fun m => n (sub _ m)
  · exact fun n => h.place fun m => n (sub _ m)
  · exact fun n => h.req fun m => n (sub _ m)
  · exact fun n => h.tab fun m => n (sub _ m)
  · exact fun n => h.key fun m => n (sub _ m)
  · exact fun n => h.hold fun m => n (sub _ m)
  · exact fun n => h.seq fun m => n (sub _ m)
  · exact fun n => h.tick fun m => n (sub _ m)
  · exact fun n => h.bus fun m => n (sub _ m)
  · exact fun n => h.eng fun m => n (sub _ m)
  · exact fun n => h.reg fun m => n (sub _ m)
  · exact fun n => h.prc fun m => n (sub _ m)
  · exact fun n => h.rot fun m => n (sub _ m)
  · exact fun n => h.out fun m => n (sub _ m)
  · exact fun n => h.mute fun m => n (sub _ m)
  · exact fun n => h.flt fun m => n (sub _ m)
  · exact fun n => h.cnt fun m => n (sub _ m)
  · exact h.pending

theorem foldl {l : List Block} {f : State → α → State} (h : ∀ s a, Frame l s (f s a)) (xs : List α) :
    ∀ s, Frame l s (xs.foldl f s) := by
  induction xs with
  | nil => exact fun s => refl l s
  | cons x xs ih => exact fun s => (h s x).trans (ih (f s x))

/-- LNK and the Reply Queue untouched: all of LNK is. -/
theorem allLnk {l : List Block} {s t : State} (h : Frame l s t) (a : Block.lnk ∉ l)
    (b : Block.replies ∉ l) (c : Block.place ∉ l) : t.lnk = s.lnk := by
  have x := h.lnk a
  rw [← h.replies b, ← h.place c] at x
  exact x

/-- OUT and the mute request untouched: all of OUT is. -/
theorem allOut {l : List Block} {s t : State} (h : Frame l s t) (a : Block.out ∉ l)
    (b : Block.mute ∉ l) : t.out = s.out := by
  have x := h.out a
  rw [← h.mute b] at x
  exact x

theorem setReq {l : List Block} (m : Block.req ∈ l) (s : State) (b) : Frame l s (s.setReq b) := by
  constructor <;> intros <;> first | rfl | contradiction

theorem setTab {l : List Block} (m : Block.tab ∈ l) (s : State) (b) : Frame l s (s.setTab b) := by
  constructor <;> intros <;> first | rfl | contradiction

theorem setBus {l : List Block} (m : Block.bus ∈ l) (s : State) (b) : Frame l s (s.setBus b) := by
  constructor <;> intros <;> first | rfl | contradiction

theorem setEng {l : List Block} (m : Block.eng ∈ l) (s : State) (b) : Frame l s (s.setEng b) := by
  constructor <;> intros <;> first | rfl | contradiction

theorem setReg {l : List Block} (m : Block.reg ∈ l) (s : State) (b) : Frame l s (s.setReg b) := by
  constructor <;> intros <;> first | rfl | contradiction

theorem setPrc {l : List Block} (m : Block.prc ∈ l) (s : State) (b) : Frame l s (s.setPrc b) := by
  constructor <;> intros <;> first | rfl | contradiction

theorem setRot {l : List Block} (m : Block.rot ∈ l) (s : State) (b) : Frame l s (s.setRot b) := by
  constructor <;> intros <;> first | rfl | contradiction

theorem setFlt {l : List Block} (m : Block.flt ∈ l) (s : State) (b) : Frame l s (s.setFlt b) := by
  constructor <;> intros <;> first | rfl | contradiction

theorem setCnt {l : List Block} (m : Block.cnt ∈ l) (s : State) (b) : Frame l s (s.setCnt b) := by
  constructor <;> intros <;> first | rfl | contradiction

theorem setLnk {l : List Block} (s : State) (b : LinkUnit)
    (x : Block.lnk ∈ l ∨ { b with replies := s.lnk.replies, replyHeld := s.lnk.replyHeld } = s.lnk)
    (y : Block.replies ∈ l ∨ b.replies = s.lnk.replies)
    (z : Block.place ∈ l ∨ b.replyHeld = s.lnk.replyHeld) : Frame l s (s.setLnk b) := by
  constructor
  · exact fun n => x.resolve_left n
  · exact fun n => y.resolve_left n
  · exact fun n => z.resolve_left n
  · exact fun _ => rfl
  · exact fun _ => rfl
  · exact fun _ => rfl
  · exact fun _ => rfl
  · exact fun _ => rfl
  · exact fun _ => rfl
  · exact fun _ => rfl
  · exact fun _ => rfl
  · exact fun _ => rfl
  · exact fun _ => rfl
  · exact fun _ => rfl
  · exact fun _ => rfl
  · exact fun _ => rfl
  · exact fun _ => rfl
  · exact fun _ => rfl
  · rfl

theorem setKey {l : List Block} (s : State) (b : KeyUnit)
    (x : Block.key ∈ l ∨ b.records = s.key.records) (y : Block.hold ∈ l ∨ b.hold = s.key.hold) :
    Frame l s (s.setKey b) := by
  constructor
  · exact fun _ => rfl
  · exact fun _ => rfl
  · exact fun _ => rfl
  · exact fun _ => rfl
  · exact fun _ => rfl
  · exact fun n => x.resolve_left n
  · exact fun n => y.resolve_left n
  · exact fun _ => rfl
  · exact fun _ => rfl
  · exact fun _ => rfl
  · exact fun _ => rfl
  · exact fun _ => rfl
  · exact fun _ => rfl
  · exact fun _ => rfl
  · exact fun _ => rfl
  · exact fun _ => rfl
  · exact fun _ => rfl
  · exact fun _ => rfl
  · rfl

theorem setSeq {l : List Block} (s : State) (b : Sequencer)
    (x : Block.seq ∈ l ∨ b.schedule = s.seq.schedule) (y : Block.tick ∈ l ∨ b.tickCount = s.seq.tickCount) :
    Frame l s (s.setSeq b) := by
  constructor
  · exact fun _ => rfl
  · exact fun _ => rfl
  · exact fun _ => rfl
  · exact fun _ => rfl
  · exact fun _ => rfl
  · exact fun _ => rfl
  · exact fun _ => rfl
  · exact fun n => x.resolve_left n
  · exact fun n => y.resolve_left n
  · exact fun _ => rfl
  · exact fun _ => rfl
  · exact fun _ => rfl
  · exact fun _ => rfl
  · exact fun _ => rfl
  · exact fun _ => rfl
  · exact fun _ => rfl
  · exact fun _ => rfl
  · exact fun _ => rfl
  · rfl

theorem setOut {l : List Block} (s : State) (b : OutputUnit)
    (x : Block.out ∈ l ∨ { b with muteRequest := s.out.muteRequest } = s.out) (y : Block.mute ∈ l ∨ b.muteRequest = s.out.muteRequest) :
    Frame l s (s.setOut b) := by
  constructor
  · exact fun _ => rfl
  · exact fun _ => rfl
  · exact fun _ => rfl
  · exact fun _ => rfl
  · exact fun _ => rfl
  · exact fun _ => rfl
  · exact fun _ => rfl
  · exact fun _ => rfl
  · exact fun _ => rfl
  · exact fun _ => rfl
  · exact fun _ => rfl
  · exact fun _ => rfl
  · exact fun _ => rfl
  · exact fun _ => rfl
  · exact fun n => x.resolve_left n
  · exact fun n => y.resolve_left n
  · exact fun _ => rfl
  · exact fun _ => rfl
  · rfl

end Frame

end Sys2Proof.Machine
end

