-- ==== Sys2Proof/Laws/Effects.lean ====
section
/-!
SUPPORT. The frame of every shared operation over the fault records, contacts, keys, controls and
outputs.
-/

namespace Sys2Proof.Machine

/-- What a release can touch. -/
abbrev releaseBlocks : List Block := [.key, .seq, .bus, .eng, .prc, .flt]

/-- What an occurrence at a fault record can touch. -/
abbrev occurBlocks : List Block := .hold :: .mute :: releaseBlocks

/-- What a report to the Fault Unit can touch. -/
abbrev reportBlocks : List Block := .replies :: occurBlocks

/-- What a contact transition or a key event's transitions can touch. -/
abbrev closeBlocks : List Block := .cnt :: reportBlocks

/-- What a key event can touch. -/
abbrev keyBlocks : List Block := .reg :: closeBlocks

/-- What a control move can touch. -/
abbrev controlBlocks : List Block := [.key, .seq, .bus, .eng, .prc, .flt, .reg, .rot, .cnt]

/-- What a summary can touch. -/
abbrev refreshBlocks : List Block := [.hold, .mute, .flt]

/-- What an event at the Fault Unit that starts no action can touch. -/
abbrev summaryBlocks : List Block := [.replies, .hold, .mute, .flt]

/-- What the output stage can touch. -/
abbrev outputBlocks : List Block := .rot :: .out :: closeBlocks

/-- What a written or restored entry can touch. -/
abbrev writeBlocks : List Block := .tab :: .rot :: .out :: reportBlocks

/-! ### Notices -/

theorem State.setRecord_frame (s : State) (k : FaultKind) (r : FaultRecord) :
    Frame [.flt] s (s.setRecord k r) := Frame.setFlt (by decide) s _

theorem State.refresh_frame (s : State) : Frame refreshBlocks s s.refresh :=
  ((Frame.setKey s _ (.inr (by rfl)) (.inl (by decide))).trans (Frame.setOut _ _ (.inr (by rfl)) (.inl (by decide)))).trans
    (Frame.setFlt (by decide) _ _)

theorem State.queueFrame_frame (s : State) (ws : List Word) : Frame [.replies] s (s.queueFrame ws) :=
  Frame.setLnk s _ (.inr (by rfl)) (.inl (by decide)) (.inr (by rfl))

theorem State.queueNotice_frame (s : State) : Frame [.replies, .flt] s s.queueNotice :=
  ((s.queueFrame_frame _).mono (by decide)).trans (Frame.setFlt (by decide) _ _)

theorem State.checkNotice_frame (s : State) : Frame [.replies, .flt] s s.checkNotice := by
  unfold State.checkNotice
  split
  · split
    · exact s.queueNotice_frame
    · exact Frame.setFlt (by decide) _ _
  · exact Frame.refl _ _

theorem State.countChange_frame (s : State) : Frame [.replies, .flt] s s.countChange := by
  unfold State.countChange
  split
  · exact (Frame.setFlt (by decide) _ _).trans (State.checkNotice_frame _)
  · exact Frame.refl _ _

/-- An event touches what its change touches, and the notices. -/
theorem State.asEvent_frame {l : List Block} (hl : Block.replies ∈ l) (hf : Block.flt ∈ l)
    {f : State → State} {s : State} (h : Frame l s (f s)) : Frame l s (s.asEvent f) := by
  unfold State.asEvent
  dsimp only
  split
  · exact h
  · refine h.trans ((State.countChange_frame _).mono ?_)
    intro x hx
    simp only [List.mem_cons, List.not_mem_nil, or_false] at hx
    rcases hx with rfl | rfl <;> assumption

theorem State.conditionAbsent_frame (k : FaultKind) (s : State) :
    Frame [.flt] s (s.conditionAbsent k) := by
  unfold State.conditionAbsent
  dsimp only
  split
  · exact s.setRecord_frame _ _
  · exact Frame.refl _ _

theorem State.count_frame (s : State) (f : Counters → Counters) : Frame [.cnt] s (s.count f) :=
  Frame.setCnt (by decide) s _

/-! ### Contacts and releases -/

theorem State.setKeyRecord_frame (s : State) (k : KeyId) (r : KeyRecord) :
    Frame [.key] s (s.setKeyRecord k r) := Frame.setKey s _ (.inl (by decide)) (.inr (by rfl))

theorem State.setKeyState_frame (s : State) (k : KeyId) (st : KeyState) :
    Frame [.key] s (s.setKeyState k st) := s.setKeyRecord_frame _ _

theorem State.setContact_frame (s : State) (k : KeyId) (c : ContactId) (x : Contact) :
    Frame [.key] s (s.setContact k c x) := s.setKeyRecord_frame _ _

theorem State.startClick_frame (s : State) (m : Manual) (b : Bool) : Frame [.bus] s (s.startClick m b) :=
  Frame.setBus (by decide) s _

theorem State.setEngEasing_frame (s : State) (c : EngineCache) :
    Frame [.eng, .flt] s (s.setEngEasing c) := by
  unfold State.setEngEasing
  dsimp only
  split
  · exact (Frame.setEng (by decide) _ _).trans ((State.conditionAbsent_frame _ _).mono (by decide))
  · exact Frame.setEng (by decide) _ _

theorem State.countDown_frame (s : State) (row : BusRow) (w : Wheel) :
    Frame [.bus, .eng, .flt] s (s.countDown row w) := by
  unfold State.countDown
  dsimp only
  split
  · exact Frame.refl _ _
  · split
    · exact (Frame.setBus (by decide) _ _).trans ((State.setEngEasing_frame _ _).mono (by decide))
    · exact Frame.setBus (by decide) _ _

theorem State.applyOpen_frame (k : KeyId) (c : ContactId) (s : State) :
    Frame [.key, .bus, .eng, .flt] s (s.applyOpen k c) := by
  unfold State.applyOpen
  split
  · exact Frame.refl _ _
  · exact (s.setContact_frame _ _ _).mono (by decide)
  · exact (((s.setContact_frame _ _ _).mono (by decide)).trans
      ((State.countDown_frame _ _ _).mono (by decide))).trans
      ((State.startClick_frame _ _ _).mono (by decide))

theorem State.manualFullyUp_frame (s : State) : Frame [.prc] s s.manualFullyUp :=
  Frame.setPrc (by decide) s _

theorem State.openKey_frame (k : KeyId) (s : State) :
    Frame [.key, .bus, .eng, .flt] s (s.openKey k) :=
  Frame.foldl (fun s c => s.applyOpen_frame k c) _ s

theorem State.makeUp_frame (m : Manual) (s : State) : Frame [.key] s (s.makeUp m) :=
  Frame.foldl (fun s k => s.setKeyState_frame k _) _ s

theorem State.releaseManual_frame (m : Manual) (s : State) :
    Frame releaseBlocks s (s.releaseManual m) := by
  have a : ∀ t : State, Frame releaseBlocks t ((manualKeys m).foldl (fun s k => s.openKey k) t) :=
    Frame.foldl (fun s k => (s.openKey_frame k).mono (by decide)) _
  have b : ∀ t : State, Frame releaseBlocks t (t.makeUp m) :=
    fun t => (t.makeUp_frame m).mono (by decide)
  unfold State.releaseManual
  dsimp only
  split
  · exact (((Frame.setSeq _ _ (.inl (by decide)) (.inr (by rfl))).trans (a _)).trans (b _)).trans
      ((State.manualFullyUp_frame _).mono (by decide))
  · exact ((Frame.setSeq _ _ (.inl (by decide)) (.inr (by rfl))).trans (a _)).trans (b _)

theorem State.release_frame (ms : List Manual) (s : State) : Frame releaseBlocks s (s.release ms) :=
  Frame.foldl (fun s m => s.releaseManual_frame m) _ s

/-! ### Fault records -/

theorem State.takeForce_frame (a : Action) (s : State) : Frame occurBlocks s (s.takeForce a) := by
  unfold State.takeForce
  dsimp only
  split
  · exact (s.refresh_frame.mono (by decide)).trans ((State.release_frame _ _).mono (by decide))
  · exact s.refresh_frame.mono (by decide)

theorem State.occur_frame (k : FaultKind) (s : State) : Frame occurBlocks s (s.occur k) := by
  have a : ∀ r, Frame occurBlocks s (s.setRecord k r) := fun r => (s.setRecord_frame k r).mono (by decide)
  have b : ∀ t : State, Frame occurBlocks t t.refresh := fun t => t.refresh_frame.mono (by decide)
  unfold State.occur
  dsimp only
  split
  · exact Frame.refl _ _
  · exact (a _).trans (b _)
  · split
    · exact (a _).trans (b _)
    · exact (a _).trans (State.takeForce_frame _ _)

theorem State.conditionPresent_frame (k : FaultKind) (s : State) :
    Frame reportBlocks s (s.conditionPresent k) := by
  unfold State.conditionPresent
  dsimp only
  split
  · exact Frame.refl _ _
  · split
    · exact (s.setRecord_frame _ _).mono (by decide)
    · exact ((s.setRecord_frame _ _).mono (by decide)).trans
        (State.asEvent_frame (by decide) (by decide) ((State.occur_frame _ _).mono (by decide)))

theorem State.raiseEvent_frame (k : FaultKind) (s : State) : Frame reportBlocks s (s.raiseEvent k) := by
  unfold State.raiseEvent
  split
  · exact Frame.refl _ _
  · exact State.asEvent_frame (by decide) (by decide) ((State.occur_frame _ _).mono (by decide))

theorem State.endEpisode_frame (k : FaultKind) (s : State) : Frame refreshBlocks s (s.endEpisode k) :=
  ((s.setRecord_frame _ _).mono (by decide)).trans (State.refresh_frame _)

theorem State.retryTick_frame (k : FaultKind) (s : State) : Frame summaryBlocks s (s.retryTick k) := by
  unfold State.retryTick
  dsimp only
  split
  · split
    · exact ((s.setRecord_frame _ _).mono (by decide)).trans
        (State.asEvent_frame (by decide) (by decide) ((State.endEpisode_frame _ _).mono (by decide)))
    · exact (s.setRecord_frame _ _).mono (by decide)
  · exact Frame.refl _ _

theorem State.retryTicks_frame (s : State) : Frame summaryBlocks s s.retryTicks :=
  Frame.foldl (fun s k => s.retryTick_frame k) _ s

theorem State.clearRecord_frame (k : FaultKind) (s : State) : Frame [.flt] s (s.clearRecord k) := by
  unfold State.clearRecord
  dsimp only
  split
  · exact Frame.refl _ _
  · exact s.setRecord_frame _ _

theorem State.clearLimitFlags_frame (s : State) : Frame [.out] s s.clearLimitFlags :=
  Frame.setOut s _ (.inl (by decide)) (.inr (by rfl))

theorem State.clearFaults_frame (s : State) : Frame (.out :: summaryBlocks) s s.clearFaults := by
  have a : Frame (.out :: summaryBlocks) s (allKinds.foldl (fun s k => s.clearRecord k) s) :=
    Frame.foldl (fun s k => (s.clearRecord_frame k).mono (by decide)) _ s
  exact State.asEvent_frame (by decide) (by decide)
    ((a.trans ((State.clearLimitFlags_frame _).mono (by decide))).trans
      ((State.refresh_frame _).mono (by decide)))

theorem State.reconfigureMode_frame (k : FaultKind) (s : State) :
    Frame occurBlocks s (s.reconfigureMode k) := by
  have a : ∀ r, Frame occurBlocks s (s.setRecord k r) := fun r => (s.setRecord_frame k r).mono (by decide)
  unfold State.reconfigureMode
  dsimp only
  split
  · exact a _
  · exact a _
  · exact a _
  · exact a _
  · split
    · exact State.occur_frame _ _
    · exact Frame.refl _ _

theorem State.reconfigureAction_frame (k : FaultKind) (s : State) :
    Frame occurBlocks s (s.reconfigureAction k) := by
  unfold State.reconfigureAction
  dsimp only
  split
  · exact ((s.setRecord_frame _ _).mono (by decide)).trans (State.takeForce_frame _ _)
  · exact Frame.refl _ _

theorem State.setFaultEntry_frame (k : FaultKind) (w : Word) (s : State) :
    Frame [.tab] s (s.setFaultEntry k w) := Frame.setTab (by decide) s _

theorem State.reconfigure_frame (k : FaultKind) (w : Word) (s : State) :
    Frame (.tab :: occurBlocks) s (s.reconfigure k w) := by
  have a : Frame (.tab :: occurBlocks) s (s.setFaultEntry k w) :=
    (s.setFaultEntry_frame k w).mono (by decide)
  have b : ∀ t : State, Frame (.tab :: occurBlocks) t (t.reconfigureMode k) :=
    fun t => (t.reconfigureMode_frame k).mono (by decide)
  have c : ∀ t : State, Frame (.tab :: occurBlocks) t (t.reconfigureAction k) :=
    fun t => (t.reconfigureAction_frame k).mono (by decide)
  have d : ∀ t : State, Frame (.tab :: occurBlocks) t t.refresh := fun t => t.refresh_frame.mono (by decide)
  unfold State.reconfigure
  dsimp only
  refine Frame.trans ?_ (d _)
  split
  · refine Frame.trans ?_ (c _)
    split
    · exact a
    · exact a.trans (b _)
  · split
    · exact a
    · exact a.trans (b _)

/-! ### Registration, rotors and percussion -/

theorem State.selectNow_frame (m : Manual) (p : Fin 16) (s : State) : Frame [.reg] s (s.selectNow m p) :=
  Frame.setReg (by decide) s _

theorem State.selectGlide_frame (m : Manual) (p : Fin 16) (s : State) :
    Frame [.reg] s (s.selectGlide m p) := Frame.setReg (by decide) s _

theorem State.selectNextPlay_frame (m : Manual) (p : Fin 16) (s : State) :
    Frame [.reg] s (s.selectNextPlay m p) := Frame.setReg (by decide) s _

theorem State.moveDrawbar_frame (m : Manual) (n : Fin 9) (v : Nat) (s : State) :
    Frame [.reg] s (s.moveDrawbar m n v) := Frame.setReg (by decide) s _

theorem State.glideTick_frame (m : Manual) (s : State) : Frame [.reg] s (s.glideTick m) := by
  unfold State.glideTick
  dsimp only
  split
  · split <;> exact Frame.setReg (by decide) _ _
  · exact Frame.refl _ _

theorem State.phraseStart_frame (m : Manual) (s : State) : Frame [.reg, .prc] s (s.phraseStart m) := by
  unfold State.phraseStart
  dsimp only
  split <;> split <;> first
    | exact ((s.selectNow_frame _ _).mono (by decide)).trans (Frame.setPrc (by decide) _ _)
    | exact (s.selectNow_frame _ _).mono (by decide)
    | exact Frame.setPrc (by decide) _ _

theorem State.retarget_frame (i : RotorId) (s : State) : Frame [.rot] s (s.retarget i) :=
  Frame.setRot (by decide) s _

theorem State.moveSelector_frame (sel : Selector) (s : State) : Frame [.rot] s (s.moveSelector sel) := by
  unfold State.moveSelector
  split
  · exact Frame.refl _ _
  · exact ((Frame.setRot (by decide) _ _).trans (State.retarget_frame _ _)).trans
      (State.retarget_frame _ _)

theorem State.moveBrake_frame (on : Bool) (s : State) : Frame [.rot] s (s.moveBrake on) := by
  unfold State.moveBrake
  dsimp only
  split
  · exact Frame.refl _ _
  · split
    · exact ((Frame.setRot (by decide) _ _).trans (State.retarget_frame _ _)).trans
        (State.retarget_frame _ _)
    · exact Frame.setRot (by decide) _ _

theorem State.rotorTick_frame (i : RotorId) (s : State) : Frame [.rot] s (s.rotorTick i) := by
  unfold State.rotorTick
  dsimp only
  split
  · exact Frame.refl _ _
  · exact Frame.setRot (by decide) _ _

/-! ### Contacts that close, key events -/

theorem State.demandUp_frame (w : Wheel) (s : State) : Frame closeBlocks s (s.demandUp w) := by
  have a : Frame closeBlocks s ((s.setEng (s.eng.demandUp w).1).count (countServed (s.eng.demandUp w).2)) :=
    (Frame.setEng (by decide) _ _).trans ((State.count_frame _ _).mono (by decide))
  unfold State.demandUp
  dsimp only
  split
  · exact a.trans ((State.conditionPresent_frame _ _).mono (by decide))
  · exact a

theorem State.countUp_frame (s : State) (row : BusRow) (w : Wheel) :
    Frame closeBlocks s (s.countUp row w) := by
  unfold State.countUp
  dsimp only
  split
  · exact (Frame.setBus (by decide) _ _).trans (State.demandUp_frame _ _)
  · exact Frame.setBus (by decide) _ _

theorem State.closeOn_frame (k : KeyId) (c : ContactId) (b : Option Wheel) (s : State) :
    Frame closeBlocks s (s.closeOn k c b) := by
  have a : Frame closeBlocks s (s.setContact k c (.closed b)) :=
    (s.setContact_frame _ _ _).mono (by decide)
  unfold State.closeOn
  dsimp only
  split
  · exact a
  · exact (a.trans (State.countUp_frame _ _ _)).trans ((State.startClick_frame _ _ _).mono (by decide))

theorem State.applyClose_frame (k : KeyId) (c : ContactId) (s : State) :
    Frame closeBlocks s (s.applyClose k c) := by
  unfold State.applyClose
  dsimp only
  split
  · exact (State.closeOn_frame _ _ _ _).trans (Frame.setPrc (by decide) _ _)
  · exact State.closeOn_frame _ _ _ _

theorem State.applyTransition_frame (k : KeyId) (c : ContactId) (kind : Transition) (s : State) :
    Frame closeBlocks s (s.applyTransition k c kind) := by
  unfold State.applyTransition
  split
  · exact State.applyClose_frame _ _ _
  · exact (State.applyOpen_frame _ _ _).mono (by decide)

theorem placeOne_frame (k : KeyId) (kind : Transition) (travel : Nat) (p : State × Bool)
    (c : ContactId) : Frame closeBlocks p.1 (placeOne k kind travel p c).1 := by
  unfold placeOne
  dsimp only
  split
  · exact State.applyTransition_frame _ _ _ _
  · split
    · exact Frame.setSeq _ _ (.inl (by decide)) (.inr (by rfl))
    · exact State.applyTransition_frame _ _ _ _

theorem placeTransition_frame (k : KeyId) (kind : Transition) (travel : Nat) (p : State × Bool)
    (c : ContactId) : Frame closeBlocks p.1 (placeTransition k kind travel p c).1 := by
  unfold placeTransition
  split
  · exact placeOne_frame k kind travel p c
  · exact Frame.refl _ _

theorem placeTransition_foldl_frame (k : KeyId) (kind : Transition) (travel : Nat) (cs : List ContactId) :
    ∀ p : State × Bool, Frame closeBlocks p.1 (cs.foldl (placeTransition k kind travel) p).1 := by
  induction cs with
  | nil => exact fun p => Frame.refl _ _
  | cons c cs ih => exact fun p => (placeTransition_frame k kind travel p c).trans (ih _)

theorem State.collapse_frame (s : State) : Frame closeBlocks s s.collapse :=
  ((s.count_frame _).mono (by decide)).trans ((State.raiseEvent_frame _ _).mono (by decide))

theorem State.placeTransitions_frame (k : KeyId) (kind : Transition) (cs : List ContactId) (s : State) :
    Frame closeBlocks s (s.placeTransitions k kind cs) := by
  unfold State.placeTransitions
  dsimp only
  split
  · exact (placeTransition_foldl_frame _ _ _ _ (s, false)).trans (State.collapse_frame _)
  · exact placeTransition_foldl_frame _ _ _ _ (s, false)

theorem State.removePending_frame (k : KeyId) (kind : Transition) (s : State) :
    Frame [.seq] s (s.removePending k kind) := Frame.setSeq s _ (.inl (by decide)) (.inr (by rfl))

theorem State.afterUp_frame (k : KeyId) (s : State) : Frame [.prc] s (s.afterUp k) := by
  unfold State.afterUp
  split
  · exact s.manualFullyUp_frame
  · exact Frame.refl _ _

theorem State.settleKey_frame (k : KeyId) (s : State) : Frame [.key, .prc] s (s.settleKey k) := by
  unfold State.settleKey
  split
  · exact Frame.refl _ _
  · split
    · exact (s.setKeyState_frame _ _).mono (by decide)
    · exact ((s.setKeyState_frame _ _).mono (by decide)).trans ((State.afterUp_frame _ _).mono (by decide))
    · exact Frame.refl _ _

theorem State.move_frame (kind : Transition) (k : KeyId) (travel : BitVec 6) (s : State) :
    Frame closeBlocks s (s.move kind k travel) :=
  ((((s.removePending_frame _ _).mono (by decide)).trans
    ((State.setKeyRecord_frame _ _ _).mono (by decide))).trans
    (State.placeTransitions_frame _ _ _ _)).trans ((State.settleKey_frame _ _).mono (by decide))

theorem State.moveDown_frame (k : KeyId) (travel : BitVec 6) (s : State) :
    Frame closeBlocks s (s.moveDown k travel) := s.move_frame .close k travel

theorem State.moveUp_frame (k : KeyId) (travel : BitVec 6) (s : State) :
    Frame closeBlocks s (s.moveUp k travel) := s.move_frame .open_ k travel

theorem State.strayEvent_frame (s : State) : Frame closeBlocks s s.strayEvent := by
  have a : Frame closeBlocks s (s.count (fun c => { c with strayKeys := c.strayKeys + 1 })) :=
    (s.count_frame _).mono (by decide)
  unfold State.strayEvent
  dsimp only
  split
  · exact a.trans ((State.raiseEvent_frame _ _).mono (by decide))
  · exact a

theorem State.keyDownOn_frame (k : KeyId) (travel : BitVec 6) (s : State) :
    Frame keyBlocks s (s.keyDownOn k travel) := by
  have c : ∀ f, Frame keyBlocks s (s.count f) := fun f => (s.count_frame f).mono (by decide)
  have d : ∀ t : State, Frame keyBlocks t (t.moveDown k travel) :=
    fun t => (t.moveDown_frame k travel).mono (by decide)
  unfold State.keyDownOn
  split
  · exact c _
  · split
    · exact c _
    · exact c _
    · exact d _
    · split
      · exact ((s.phraseStart_frame _).mono (by decide)).trans (d _)
      · exact d _

theorem State.keyUpOn_frame (k : KeyId) (travel : BitVec 6) (s : State) :
    Frame closeBlocks s (s.keyUpOn k travel) := by
  unfold State.keyUpOn
  split
  · exact (s.count_frame _).mono (by decide)
  · exact (s.count_frame _).mono (by decide)
  · exact s.moveUp_frame _ _

theorem State.keyEvent_frame (source : BitVec 2) (raw : BitVec 7) (down : Bool) (travel : BitVec 6)
    (s : State) : Frame keyBlocks s (s.keyEvent source raw down travel) := by
  unfold State.keyEvent
  split
  · split
    · exact s.strayEvent_frame.mono (by decide)
    · split
      · exact s.keyDownOn_frame _ _
      · exact (s.keyUpOn_frame _ _).mono (by decide)
  · exact (s.count_frame _).mono (by decide)

theorem State.keyWord_frame (s : State) (w : Word) : Frame keyBlocks s (s.keyWord w) :=
  s.keyEvent_frame _ _ _ _

theorem State.applyHead_frame (s : State) : Frame closeBlocks s s.applyHead := by
  unfold State.applyHead
  split
  · exact Frame.refl _ _
  · split
    · exact ((Frame.setSeq _ _ (.inl (by decide)) (.inr (by rfl))).trans (State.applyTransition_frame _ _ _ _)).trans
        ((State.settleKey_frame _ _).mono (by decide))
    · exact Frame.refl _ _

theorem State.applyDue_frame (fuel : Nat) : ∀ s : State, Frame closeBlocks s (State.applyDue fuel s) := by
  induction fuel with
  | zero => exact fun s => Frame.refl _ _
  | succ n ih =>
    intro s
    unfold State.applyDue
    split
    · exact Frame.refl _ _
    · split
      · exact s.applyHead_frame.trans (ih _)
      · exact Frame.refl _ _

theorem State.expireClick_frame (s : State) : Frame [.bus] s s.expireClick := by
  unfold State.expireClick
  split
  · exact Frame.refl _ _
  · split
    · exact Frame.setBus (by decide) _ _
    · exact Frame.refl _ _

/-! ### Controls -/

theorem State.controlAccepted_frame (id value : Nat) (s : State) :
    Frame controlBlocks s (s.controlAccepted id value) := by
  unfold State.controlAccepted
  split
  · split
    · exact (s.moveDrawbar_frame _ _ _).mono (by decide)
    · exact Frame.refl _ _
  · split <;> first
      | exact Frame.setReg (by decide) _ _
      | exact Frame.setPrc (by decide) _ _
      | exact (s.moveSelector_frame _).mono (by decide)
      | exact (s.moveBrake_frame _).mono (by decide)
      | exact (s.release_frame _).mono (by decide)

theorem State.controlMove_frame (id value : Nat) (s : State) :
    Frame controlBlocks s (s.controlMove id value) := by
  unfold State.controlMove
  split
  · exact Frame.refl _ _
  · split
    · exact s.controlAccepted_frame _ _
    · exact (s.count_frame _).mono (by decide)

/-! ### The output stage -/

theorem State.formAudio_frame (s : State) : Frame [.eng, .prc, .rot] s s.formAudio.1 :=
  ((Frame.setEng (by decide) s _).trans (Frame.setPrc (by decide) _ _)).trans
    (Frame.setRot (by decide) _ _)

theorem State.setLimiter_frame (s : State) (o : OutputId) (l : Limiter) :
    Frame [.out] s (s.setLimiter o l) := Frame.setOut s _ (.inl (by decide)) (.inr (by rfl))

theorem State.stepLimiter_frame (x : Sample) (s : State) (o : OutputId) :
    Frame (.out :: closeBlocks) s (s.stepLimiter x o) := by
  unfold State.stepLimiter
  dsimp only
  split
  · refine State.asEvent_frame (by decide) (by decide) ?_
    exact ((((s.setLimiter_frame _ _).mono (by decide)).trans
      ((State.count_frame _ _).mono (by decide))).trans
      ((State.occur_frame _ _).mono (by decide))).trans ((State.refresh_frame _).mono (by decide))
  · exact (s.setLimiter_frame _ _).mono (by decide)

theorem State.stepFade_frame (s : State) : Frame [.out] s s.stepFade := Frame.setOut s _ (.inl (by decide)) (.inr (by rfl))

theorem State.stepLimiters_frame (pre : Vector Sample 4) (s : State) :
    Frame (.out :: closeBlocks) s (s.stepLimiters pre) := by
  unfold State.stepLimiters
  exact Frame.foldl (fun s o => State.stepLimiter_frame _ s o) _ _

theorem State.sendPorts_frame (pre : Vector Sample 4) (s : State) : Frame [.out] s (s.sendPorts pre) :=
  Frame.setOut s _ (.inl (by decide)) (.inr (by rfl))

theorem State.outputStage_frame (s : State) : Frame outputBlocks s s.outputStage := by
  unfold State.outputStage
  dsimp only
  split
  · exact Frame.refl _ _
  · exact (((s.formAudio_frame.mono (by decide)).trans ((State.stepFade_frame _).mono (by decide))).trans
      ((State.stepLimiters_frame _ _).mono (by decide))).trans
      ((State.sendPorts_frame _ _).mono (by decide))

/-! ### Tables -/

theorem State.storeEntry_frame (s : State) (t : TableId) (i : Nat) (ws : List Word) :
    Frame [.tab] s (s.storeEntry t i ws) := Frame.setTab (by decide) s _

theorem State.silenceWritten_frame (s : State) : Frame [.flt] s s.silenceWritten := by
  unfold State.silenceWritten
  split
  · exact Frame.setFlt (by decide) _ _
  · exact (Frame.setFlt (by decide) _ _).trans (State.conditionAbsent_frame _ _)

theorem State.enableWritten_frame (old : Bool) (s : State) : Frame [.flt] s (s.enableWritten old) := by
  unfold State.enableWritten
  split
  · split
    · exact Frame.refl _ _
    · exact Frame.setFlt (by decide) _ _
  · exact Frame.setFlt (by decide) _ _

theorem State.modeWritten_frame (o : OutputId) (old : Word) (s : State) :
    Frame [.out] s (s.modeWritten o old) := by
  unfold State.modeWritten
  split
  · exact Frame.refl _ _
  · exact s.setLimiter_frame _ _

theorem State.writeEntry_frame (t : TableId) (s : State) (i : Nat) (ws : List Word) :
    Frame writeBlocks s (s.writeEntry t i ws) := by
  have a : ∀ (u : State) (t : TableId), Frame writeBlocks u (u.storeEntry t i ws) :=
    fun u t => (u.storeEntry_frame t i ws).mono (by decide)
  unfold State.writeEntry
  split
  · exact (s.reconfigure_frame _ _).mono (by decide)
  · dsimp only
    split
    · exact (a _ _).trans ((State.silenceWritten_frame _).mono (by decide))
    · split
      · exact (a _ _).trans ((State.enableWritten_frame _ _).mono (by decide))
      · exact a _ _
  · split
    · exact (s.retryTicks_frame.mono (by decide)).trans (a _ _)
    · exact a _ _
  · dsimp only
    split
    · exact (a _ _).trans ((State.retarget_frame _ _).mono (by decide))
    · exact a _ _
  · dsimp only
    split
    · exact (a _ _).trans ((State.modeWritten_frame _ _ _).mono (by decide))
    · exact a _ _
  · exact a _ _

theorem State.writeList_frame (t : TableId) (es : List (Nat × List Word)) (s : State) :
    Frame writeBlocks s (s.writeList t es) := by
  unfold State.writeList
  refine Frame.foldl ?_ _ s
  intro u e
  exact State.writeEntry_frame t u e.1 e.2

theorem State.writeEntries_frame (t : TableId) (es : List (Nat × List Word)) (s : State) :
    Frame writeBlocks s (s.writeEntries t es) := by
  unfold State.writeEntries
  split
  · exact State.asEvent_frame (f := State.writeList .faultConfiguration es) (by decide) (by decide)
      (s.writeList_frame _ _)
  · exact (s.writeList_frame _ _).trans ((State.checkNotice_frame _).mono (by decide))
  · exact s.writeList_frame _ _

theorem State.restoreTick_frame (s : State) : Frame (.req :: writeBlocks) s s.restoreTick := by
  unfold State.restoreTick
  split
  · exact Frame.refl _ _
  · dsimp only
    split
    · exact Frame.refl _ _
    · split <;> exact ((State.writeEntries_frame _ _ _).mono (by decide)).trans
        (Frame.setReq (by decide) _ _)

end Sys2Proof.Machine
end

