-- ==== Sys2Proof/Laws/Keys.lean ====
section
/-!
SUPPORT. The operations of keys, contacts, the envelope and the fault conditions, in the words that the
statements use for them (Safety.lean).
-/

namespace Sys2Proof.Machine

theorem State.wheelToBind_eq_assignedWheel (s : State) (k : KeyId) (c : ContactId) :
    s.wheelToBind k c = s.assignedWheel k c := rfl

theorem State.contactsThat_eq_keyContacts (s : State) (k : KeyId) (closed : Bool) :
    s.contactsThat k closed = s.keyContacts k closed := rfl

theorem transitionOffset_eq_offsetOf (s : State) (k : KeyId) (travel : BitVec 6) (kind : Transition)
    (c : ContactId) :
    transitionOffset kind travel.toNat (wordAt s.tab.contactProfile (profileIndex (keyManual k) c)).toNat
      = s.offsetOf k travel kind c := by
  cases kind <;> rfl

theorem Percussion.phraseStart_eq_begun (p : Percussion) : p.phraseStart = p.begun := rfl

theorem Percussion.contactClosed_eq_struck (p : Percussion) : p.contactClosed = p.struck := by
  unfold Percussion.contactClosed Percussion.struck
  cases p.envelope <;> cases p.halving.running <;> simp_all

theorem Percussion.fullyUp_eq_rearmed (p : Percussion) : p.fullyUp = p.rearmed := by
  unfold Percussion.fullyUp Percussion.rearmed
  split <;> rfl

/-- Writing a record back changes nothing. -/
theorem State.setRecord_self (s : State) (k : FaultKind) : s.setRecord k (s.record k) = s := by
  simp [State.setRecord, State.record]
  rfl

theorem State.conditionAbsent_eq_withoutCondition (k : FaultKind) (s : State) :
    s.conditionAbsent k = s.withoutCondition k := by
  unfold State.conditionAbsent State.withoutCondition FaultRecord.gone
  by_cases h : (s.record k).present = true
  · rw [if_pos h, if_pos h]
    cases hh : (s.record k).held <;> cases hm : s.faultMode k <;> simp
  · rw [if_neg h, if_neg h, State.setRecord_self]

/-- An occurrence leaves its own record as its mode says, before any RELEASE it brings about (R181). -/
theorem State.occur_eq (k : FaultKind) (s : State) : s.occur k =
    match s.faultMode k with
    | .disabled => s
    | .reportOnly => (s.setRecord k ((s.record k).occurred .reportOnly (s.faultAction k))).refresh
    | m =>
      let t := s.setRecord k ((s.record k).occurred m (s.faultAction k))
      if (s.record k).held = none then t.takeForce (s.faultAction k) else t.refresh := by
  unfold State.occur FaultRecord.occurred
  dsimp only
  cases s.faultMode k <;> dsimp only <;> split <;> simp_all

/-! ### The Contact Schedule's order (R63) -/

theorem placeEntry_eq_withEntry (now : Word) (x : ScheduleEntry) (l : List ScheduleEntry) :
    placeEntry now x l = withEntry now l x := by
  induction l with
  | nil => rfl
  | cons y l ih =>
    rw [placeEntry, ih]
    by_cases h : (y.due - now).toNat ≤ (x.due - now).toNat <;>
      simp only [withEntry, ticksAhead, h, List.takeWhile_cons, List.dropWhile_cons, decide_true,
        decide_false, if_true, if_false, List.cons_append, List.nil_append, Bool.false_eq_true]

/-- An ordered schedule takes a new entry and stays ordered. -/
theorem withEntry_ordered {now : Word} {l : List ScheduleEntry} (x : ScheduleEntry)
    (h : l.Pairwise (fun a b => (a.due - now).toNat ≤ (b.due - now).toNat)) :
    (withEntry now l x).Pairwise (fun a b => (a.due - now).toNat ≤ (b.due - now).toNat) := by
  rw [← placeEntry_eq_withEntry]
  induction l with
  | nil => exact List.pairwise_singleton _ _
  | cons y l ih =>
    have ⟨hy, hl⟩ := List.pairwise_cons.mp h
    rw [placeEntry]
    split
    · next le =>
      refine List.pairwise_cons.mpr ⟨fun z hz => ?_, ih hl⟩
      rw [placeEntry_eq_withEntry, withEntry] at hz
      rcases List.mem_append.mp hz with m | m
      · exact hy z ((List.takeWhile_sublist _).subset m)
      · rcases List.mem_cons.mp m with rfl | m
        · exact le
        · exact hy z ((List.dropWhile_sublist _).subset m)
    · next gt =>
      refine List.pairwise_cons.mpr ⟨fun z hz => ?_, h⟩
      have lt : (x.due - now).toNat ≤ (y.due - now).toNat := by
        unfold ticksAhead at gt
        omega
      rcases List.mem_cons.mp hz with rfl | m
      · exact lt
      · exact Nat.le_trans lt (hy z m)

/-- At the next tick every entry that is not due at this one lies one tick nearer. -/
theorem ahead_next (due now : Word) (h : due ≠ now) :
    (due - (now + 1)).toNat = (due - now).toNat - 1 := by
  have : due.toNat ≠ now.toNat := fun e => h (BitVec.eq_of_toNat_eq e)
  have := due.isLt
  have := now.isLt
  simp only [BitVec.toNat_sub, BitVec.toNat_add, BitVec.reduceToNat]
  omega

/-! ### Click pulses (R88) -/

theorem clicksWith_nil (l : List ClickPulse) : clicksWith l [] = l := rfl

theorem drop_newest (l m : List ClickPulse) (n : Nat) :
    (l.drop (l.length - n) ++ m).drop ((l.drop (l.length - n) ++ m).length - n)
      = (l ++ m).drop ((l ++ m).length - n) := by
  by_cases h : l.length ≤ n
  · rw [Nat.sub_eq_zero_of_le h, List.drop_zero]
  · rw [← List.drop_append_of_le_length (Nat.sub_le _ _), List.drop_drop]
    congr 1
    simp only [List.length_drop, List.length_append]
    omega

/-- Pulses started in two goes are those started in one. -/
theorem clicksWith_append (l a b : List ClickPulse) :
    clicksWith (clicksWith l a) b = clicksWith l (a ++ b) := by
  by_cases ha : a = []
  · rw [ha, clicksWith_nil, List.nil_append]
  · by_cases hb : b = []
    · rw [hb, clicksWith_nil, List.append_nil]
    · simp only [clicksWith, ha, hb, List.append_eq_nil_iff, if_false, false_and, drop_newest,
        List.append_assoc]

theorem startClick_clicks (s : State) (m : Manual) (positive : Bool) :
    (s.startClick m positive).bus.clicks = clicksWith s.bus.clicks [⟨m, s.seq.tickCount, positive⟩] := by
  rw [clicksWith, if_neg (List.cons_ne_nil _ _)]
  simp only [State.startClick, State.setBus_bus, clickCapacity]

end Sys2Proof.Machine
end

