-- ==== Sys2Proof/WellFormed.lean ====
section
/-!
DEFINITION. The operands that a command of each row can have. A command that fails the check stands
for nothing that can reach the part; exec gives it the meaning its words have all the same.
-/

namespace Sys2Proof

open Machine

/-- A frame's payload is at most 15 words long (R2). -/
def payloadFits (n : Nat) : Bool := decide (n ≤ 15)

/-- The operands of a command are those of its row. -/
def Instr.wellFormed : Instr → Bool
  | .write _ payload | .read _ payload => payloadFits payload.length
  | .writeKeyMap _ _ _ data | .writeWheelPitch _ _ _ data | .writeFaultConfiguration _ _ _ data
  | .writeRotorSettings _ _ _ data | .writeOutputSettings _ _ _ data => payloadFits (2 + data.length)
  | .writeNoticeSettings _ first data =>
    match first with
    | .enableAndCount => data.length == 1 || data.length == 2
    | .time => data.length == 1
  | .play _ _ rest | .standby _ _ rest | .allKeysUp _ _ rest | .clearFaults _ _ rest
  | .flushEngines _ _ rest | .restoreFactory _ _ rest | .clearCounters _ _ rest
  | .softReset _ _ rest => payloadFits (1 + rest.length)
  | .controlError id value => !controlOk id.toNat value.toNat
  | .wclkEdge (some period) => decide (0 < period)
  | .cascadeSample (.good x) => decide (-1 ≤ x ∧ x ≤ 1)
  | _ => true

end Sys2Proof
end

