-- ==== Sys2Proof/Laws/PerInstr.lean ====
section
/-!
SUPPORT. A law of every command as syntax, one lemma for each: a well-formed request's payload fits in a
frame.
-/

namespace Sys2Proof.Laws

open Sys2Proof.Machine

/-- A well-formed READ, WRITE or COMMAND has at most the 15 payload words of a frame (R2). -/
def RequestFits.Statement (i : Instr) : Prop :=
  i.wellFormed = true → ∀ h payload, assignedRequest i = some (h, payload) → payload.length ≤ 15

/-- A payload whose length the check reads. -/
theorem RequestFits.of_length {i : Instr} {h : Head} {payload : List Word}
    (e : assignedRequest i = some (h, payload)) (f : i.wellFormed = true → payload.length ≤ 15) :
    RequestFits.Statement i := by
  intro w h' payload' e'
  rw [e] at e'
  cases e'
  exact f w

/-- Two words before the data that the check reads. -/
theorem RequestFits.of_data {i : Instr} {h : Head} {a b : Word} {data : List Word}
    (e : assignedRequest i = some (h, a :: b :: data))
    (f : i.wellFormed = true → 2 + data.length ≤ 15) : RequestFits.Statement i :=
  RequestFits.of_length e (fun w => by have := f w; simp only [List.length_cons]; omega)

/-- One word before the words that the check reads. -/
theorem RequestFits.of_rest {i : Instr} {h : Head} {a : Word} {rest : List Word}
    (e : assignedRequest i = some (h, a :: rest))
    (f : i.wellFormed = true → 1 + rest.length ≤ 15) : RequestFits.Statement i :=
  RequestFits.of_length e (fun w => by have := f w; simp only [List.length_cons]; omega)

theorem RequestFits.powerOn : RequestFits.Statement .powerOn :=
  fun _ _ _ e => by cases e

theorem RequestFits.resetPin : RequestFits.Statement .resetPin :=
  fun _ _ _ e => by cases e

theorem RequestFits.resetRelease : ∀ a0, RequestFits.Statement (.resetRelease a0) :=
  fun _ _ _ _ e => by cases e

theorem RequestFits.initializationDone : RequestFits.Statement .initializationDone :=
  fun _ _ _ e => by cases e

theorem RequestFits.linkWord : ∀ a0, RequestFits.Statement (.linkWord a0) :=
  fun _ _ _ _ e => by cases e

theorem RequestFits.quietTimerExpiry : RequestFits.Statement .quietTimerExpiry :=
  fun _ _ _ e => by cases e

theorem RequestFits.searchWindowEnd : RequestFits.Statement .searchWindowEnd :=
  fun _ _ _ e => by cases e

theorem RequestFits.transmitterFree : RequestFits.Statement .transmitterFree :=
  fun _ _ _ e => by cases e

theorem RequestFits.unknownKind : ∀ a0 a1, RequestFits.Statement (.unknownKind a0 a1) :=
  fun _ _ _ _ _ e => by cases e

theorem RequestFits.write : ∀ a0 a1, RequestFits.Statement (.write a0 a1) :=
  fun _ _ => RequestFits.of_length rfl of_decide_eq_true

theorem RequestFits.writeKeyMap : ∀ a0 a1 a2 a3, RequestFits.Statement (.writeKeyMap a0 a1 a2 a3) :=
  fun _ _ _ _ => RequestFits.of_data rfl of_decide_eq_true

theorem RequestFits.writeWheelPitch : ∀ a0 a1 a2 a3, RequestFits.Statement (.writeWheelPitch a0 a1 a2 a3) :=
  fun _ _ _ _ => RequestFits.of_data rfl of_decide_eq_true

theorem RequestFits.writeFaultConfiguration : ∀ a0 a1 a2 a3, RequestFits.Statement (.writeFaultConfiguration a0 a1 a2 a3) :=
  fun _ _ _ _ => RequestFits.of_data rfl of_decide_eq_true

theorem RequestFits.writeStationNumber : ∀ a0 a1, RequestFits.Statement (.writeStationNumber a0 a1) :=
  fun _ _ => RequestFits.of_length rfl (fun _ => (by simp [writePayload]))

theorem RequestFits.writeSilenceWindow : ∀ a0 a1, RequestFits.Statement (.writeSilenceWindow a0 a1) :=
  fun _ _ => RequestFits.of_length rfl (fun _ => (by simp [writePayload]))

theorem RequestFits.writeNoticeSettings : ∀ a0 a1 a2, RequestFits.Statement (.writeNoticeSettings a0 a1 a2) := by
  intro h first data
  refine RequestFits.of_length rfl (fun w => ?_)
  cases first <;> simp_all [Instr.wellFormed, writePayload] <;> omega

theorem RequestFits.writeRotorSettings : ∀ a0 a1 a2 a3, RequestFits.Statement (.writeRotorSettings a0 a1 a2 a3) :=
  fun _ _ _ _ => RequestFits.of_data rfl of_decide_eq_true

theorem RequestFits.writeOutputSettings : ∀ a0 a1 a2 a3, RequestFits.Statement (.writeOutputSettings a0 a1 a2 a3) :=
  fun _ _ _ _ => RequestFits.of_data rfl of_decide_eq_true

theorem RequestFits.read : ∀ a0 a1, RequestFits.Statement (.read a0 a1) :=
  fun _ _ => RequestFits.of_length rfl of_decide_eq_true

theorem RequestFits.play : ∀ a0 a1 a2, RequestFits.Statement (.play a0 a1 a2) :=
  fun _ _ _ => RequestFits.of_rest rfl of_decide_eq_true

theorem RequestFits.standby : ∀ a0 a1 a2, RequestFits.Statement (.standby a0 a1 a2) :=
  fun _ _ _ => RequestFits.of_rest rfl of_decide_eq_true

theorem RequestFits.allKeysUp : ∀ a0 a1 a2, RequestFits.Statement (.allKeysUp a0 a1 a2) :=
  fun _ _ _ => RequestFits.of_rest rfl of_decide_eq_true

theorem RequestFits.clearFaults : ∀ a0 a1 a2, RequestFits.Statement (.clearFaults a0 a1 a2) :=
  fun _ _ _ => RequestFits.of_rest rfl of_decide_eq_true

theorem RequestFits.selectPresetNow : ∀ a0 a1 a2 a3 a4, RequestFits.Statement (.selectPresetNow a0 a1 a2 a3 a4) :=
  fun _ _ _ _ _ => RequestFits.of_length rfl (fun _ => (by simp [commandPayload]))

theorem RequestFits.selectPresetGlide : ∀ a0 a1 a2 a3 a4, RequestFits.Statement (.selectPresetGlide a0 a1 a2 a3 a4) :=
  fun _ _ _ _ _ => RequestFits.of_length rfl (fun _ => (by simp [commandPayload]))

theorem RequestFits.selectPresetNextPlay : ∀ a0 a1 a2 a3 a4, RequestFits.Statement (.selectPresetNextPlay a0 a1 a2 a3 a4) :=
  fun _ _ _ _ _ => RequestFits.of_length rfl (fun _ => (by simp [commandPayload]))

theorem RequestFits.flushEngines : ∀ a0 a1 a2, RequestFits.Statement (.flushEngines a0 a1 a2) :=
  fun _ _ _ => RequestFits.of_rest rfl of_decide_eq_true

theorem RequestFits.restoreFactory : ∀ a0 a1 a2, RequestFits.Statement (.restoreFactory a0 a1 a2) :=
  fun _ _ _ => RequestFits.of_rest rfl of_decide_eq_true

theorem RequestFits.restoreStep : RequestFits.Statement .restoreStep :=
  fun _ _ _ e => by cases e

theorem RequestFits.clearCounters : ∀ a0 a1 a2, RequestFits.Statement (.clearCounters a0 a1 a2) :=
  fun _ _ _ => RequestFits.of_rest rfl of_decide_eq_true

theorem RequestFits.softReset : ∀ a0 a1 a2, RequestFits.Statement (.softReset a0 a1 a2) :=
  fun _ _ _ => RequestFits.of_rest rfl of_decide_eq_true

theorem RequestFits.keyDown : ∀ a0 a1 a2, RequestFits.Statement (.keyDown a0 a1 a2) :=
  fun _ _ _ _ _ _ e => by cases e

theorem RequestFits.keyUp : ∀ a0 a1 a2, RequestFits.Statement (.keyUp a0 a1 a2) :=
  fun _ _ _ _ _ _ e => by cases e

theorem RequestFits.scheduleEntryDue : RequestFits.Statement .scheduleEntryDue :=
  fun _ _ _ e => by cases e

theorem RequestFits.clickPulseExpiry : RequestFits.Statement .clickPulseExpiry :=
  fun _ _ _ e => by cases e

theorem RequestFits.loadComplete : RequestFits.Statement .loadComplete :=
  fun _ _ _ e => by cases e

theorem RequestFits.writeBackComplete : RequestFits.Statement .writeBackComplete :=
  fun _ _ _ e => by cases e

theorem RequestFits.settleDone : ∀ a0, RequestFits.Statement (.settleDone a0) :=
  fun _ _ _ _ e => by cases e

theorem RequestFits.controlError : ∀ a0 a1, RequestFits.Statement (.controlError a0 a1) :=
  fun _ _ _ _ _ e => by cases e

theorem RequestFits.drawbarMove : ∀ a0 a1 a2, RequestFits.Statement (.drawbarMove a0 a1 a2) :=
  fun _ _ _ _ _ _ e => by cases e

theorem RequestFits.expressionMove : ∀ a0, RequestFits.Statement (.expressionMove a0) :=
  fun _ _ _ _ e => by cases e

theorem RequestFits.percussionEnable : ∀ a0, RequestFits.Statement (.percussionEnable a0) :=
  fun _ _ _ _ e => by cases e

theorem RequestFits.percussionSwitch : ∀ a0 a1, RequestFits.Statement (.percussionSwitch a0 a1) :=
  fun _ _ _ _ _ e => by cases e

theorem RequestFits.scannerMove : ∀ a0 a1, RequestFits.Statement (.scannerMove a0 a1) :=
  fun _ _ _ _ _ e => by cases e

theorem RequestFits.rotorSelect : ∀ a0, RequestFits.Statement (.rotorSelect a0) :=
  fun _ _ _ _ e => by cases e

theorem RequestFits.rotorBrake : ∀ a0, RequestFits.Statement (.rotorBrake a0) :=
  fun _ _ _ _ e => by cases e

theorem RequestFits.controlRelease : ∀ a0, RequestFits.Statement (.controlRelease a0) :=
  fun _ _ _ _ e => by cases e

theorem RequestFits.glideStep : ∀ a0, RequestFits.Statement (.glideStep a0) :=
  fun _ _ _ _ e => by cases e

theorem RequestFits.halving : RequestFits.Statement .halving :=
  fun _ _ _ e => by cases e

theorem RequestFits.boundaryStep : RequestFits.Statement .boundaryStep :=
  fun _ _ _ e => by cases e

theorem RequestFits.parkingCheck : ∀ a0, RequestFits.Statement (.parkingCheck a0) :=
  fun _ _ _ _ e => by cases e

theorem RequestFits.wclkEdge : ∀ a0, RequestFits.Statement (.wclkEdge a0) :=
  fun _ _ _ _ e => by cases e

theorem RequestFits.missingEdge : RequestFits.Statement .missingEdge :=
  fun _ _ _ e => by cases e

theorem RequestFits.cascadeSample : ∀ a0, RequestFits.Statement (.cascadeSample a0) :=
  fun _ _ _ _ e => by cases e

theorem RequestFits.episodeStart : RequestFits.Statement .episodeStart :=
  fun _ _ _ e => by cases e

theorem RequestFits.episodeEnd : RequestFits.Statement .episodeEnd :=
  fun _ _ _ e => by cases e

theorem RequestFits.retryExpiry : ∀ a0, RequestFits.Statement (.retryExpiry a0) :=
  fun _ _ _ _ e => by cases e

theorem RequestFits.consoleSilenceExpiry : RequestFits.Statement .consoleSilenceExpiry :=
  fun _ _ _ e => by cases e

theorem RequestFits.noticeTimeExpiry : RequestFits.Statement .noticeTimeExpiry :=
  fun _ _ _ e => by cases e

theorem RequestFits.noticeWaitingQueued : RequestFits.Statement .noticeWaitingQueued :=
  fun _ _ _ e => by cases e

theorem RequestFits.internalOscillatorTick : RequestFits.Statement .internalOscillatorTick :=
  fun _ _ _ e => by cases e

end Sys2Proof.Laws
end

