-- ==== Sys2Proof/Laws/Pickup.lean ====
section
/-!
SUPPORT. What the law of the undriven pickup circuits comes to: an engine that settles falls to rest and to
silence (R107, R108).
-/

namespace Sys2Proof.Machine

/-- The law's distance from rest. -/
theorem UndrivenCircuit.energy_eq (c : UndrivenCircuit) (t : ToneState) :
    c.energy t = toneEnergy c.p c.q c.r t := by
  simp only [UndrivenCircuit.energy, toneEnergy]
  ring

/-- At rest nothing is left. -/
theorem UndrivenCircuit.energy_rest (c : UndrivenCircuit) : c.energy ToneState.rest = 0 := by
  simp [UndrivenCircuit.energy, ToneState.rest]

/-- A positive form is positive but at zero. -/
theorem form_pos {p q r x y : Int} (h : 0 < p ∧ q * q < 4 * p * r) (hxy : x ≠ 0 ∨ y ≠ 0) :
    0 < p * x ^ 2 + q * x * y + r * y ^ 2 := by
  obtain ⟨hp, hd⟩ := h
  have square : 4 * p * (p * x ^ 2 + q * x * y + r * y ^ 2)
      = (2 * p * x + q * y) ^ 2 + (4 * p * r - q * q) * y ^ 2 := by ring
  have sum : 0 < (2 * p * x + q * y) ^ 2 + (4 * p * r - q * q) * y ^ 2 := by
    by_cases hy : y = 0
    · have hx : x ≠ 0 := hxy.resolve_right (not_not.mpr hy)
      subst hy
      have : 2 * p * x ≠ 0 := by simp [hp.ne', hx]
      have := sq_pos_of_ne_zero this
      simpa using this
    · have := mul_pos (sub_pos.mpr hd) (sq_pos_of_ne_zero hy)
      linarith [sq_nonneg (2 * p * x + q * y)]
  rw [← square] at sum
  exact (pos_iff_pos_of_mul_pos sum).mp (by linarith)

/-- Away from rest something is left. -/
theorem UndrivenCircuit.energy_pos (c : UndrivenCircuit) {t : ToneState} (h : t ≠ ToneState.rest) :
    0 < c.energy t := by
  refine form_pos c.positive ?_
  by_contra hc
  push Not at hc
  apply h
  obtain ⟨first, second⟩ := t
  rw [ToneState.rest, ToneState.mk.injEq]
  exact ⟨BitVec.eq_of_toInt_eq (by simpa using hc.1), BitVec.eq_of_toInt_eq (by simpa using hc.2)⟩

/-- What is left is never below nothing. -/
theorem UndrivenCircuit.energy_nonneg (c : UndrivenCircuit) (t : ToneState) : 0 ≤ c.energy t := by
  by_cases h : t = ToneState.rest
  · rw [h, c.energy_rest]
  · exact (c.energy_pos h).le

/-- The undriven circuits are as R107 and R108 say, whatever the free value. -/
theorem UndrivenCircuit.settles (c : UndrivenCircuit) : c.Settles where
  rest := ⟨c.energy_rest, fun _ h => c.energy_pos h⟩
  falls := fun w t x => by
    have f := c.falls w t x
    rw [← c.energy_eq, ← c.energy_eq] at f
    constructor
    · intro h
      rcases f with f | f
      · exact f
      · rw [f, c.energy_rest]
        exact c.energy_pos h
    · rintro rfl
      exact f.resolve_left (by rw [c.energy_rest]; exact not_lt.mpr (c.energy_nonneg _))
  nearly := fun w t xs h => by
    have n := c.nearly w t xs h
    rwa [← c.energy_eq, ← c.energy_eq] at n
  silent := fun w t xs x h => by
    have n := c.nearly w t xs h
    have s := c.silent w (settleOver (c.step w) t xs) x
    rw [← c.energy_eq] at n s
    rw [← c.energy_eq] at n
    have n' : (257 : Rat) ^ 2 * (c.energy (settleOver (c.step w) t xs) : Rat)
        ≤ (257 - xs.length : Rat) ^ 2 * (c.energy t : Rat) := by exact_mod_cast n
    have l := mul_le_mul_of_nonneg_left n' c.loud
    change 257 ^ 2 * (c.step w (settleOver (c.step w) t xs) x).2 ^ 2 ≤ _
    nlinarith

end Sys2Proof.Machine
end

