-- ==== Sys2Proof/Laws/Steps.lean ====
section
/-!
SUPPORT. The frame of the link state, of the resets, of the processes of a tick, and of requests.
-/

namespace Sys2Proof.Machine

/-- What the end of INITIALIZING can touch. -/
abbrev initBlocks : List Block := .tab :: .req :: .reg :: reportBlocks

/-- What a soft reset can touch. -/
abbrev softBlocks : List Block := .req :: .reg :: .cnt :: writeBlocks

/-- What the processes of a tick can touch: all but the Tick Count and the place held for a request. -/
abbrev tickBlocks : List Block := .lnk :: .req :: .reg :: .cnt :: writeBlocks

/-! ### The link state -/

theorem State.lock_frame (s : State) : Frame [.lnk, .flt] s s.lock :=
  (Frame.setLnk s _ (.inl (by decide)) (.inr (by rfl)) (.inr (by rfl))).trans
    ((State.conditionAbsent_frame _ _).mono (by decide))

theorem State.lose_frame (s : State) : Frame [.lnk, .cnt] s s.lose := by
  unfold State.lose
  dsimp only
  refine Frame.trans ?_ ((State.count_frame _ _).mono (by decide))
  exact Frame.setLnk s _ (.inl (by decide)) (.inr (by rfl)) (.inr (by rfl))

theorem State.quietTick_frame (s : State) : Frame [.lnk, .cnt] s s.quietTick := by
  unfold State.quietTick
  dsimp only
  split
  · split
    · exact s.lose_frame
    · exact Frame.setLnk _ _ (.inl (by decide)) (.inr (by rfl)) (.inr (by rfl))
  · exact Frame.refl _ _

theorem State.windowTick_frame (s : State) : Frame (.lnk :: reportBlocks) s s.windowTick := by
  have a : ∀ b : LinkUnit, b.replies = s.lnk.replies → b.replyHeld = s.lnk.replyHeld →
      Frame (.lnk :: reportBlocks) s (s.setLnk b) :=
    fun b x y => Frame.setLnk s b (.inl (by decide)) (.inr x) (.inr y)
  unfold State.windowTick
  dsimp only
  split
  · split
    · exact a _ rfl rfl
    · split
      · exact a _ rfl rfl
      · refine Frame.trans ?_ ((State.conditionPresent_frame _ _).mono (by decide))
        exact a _ (by rfl) (by rfl)
  · exact Frame.refl _ _

/-! ### Resets -/

theorem State.fullReset_pending (cause : ResetCause) (s : State) :
    (s.fullReset cause).pending = s.pending := rfl

theorem State.releaseReset_frame (strap : BitVec 5) (s : State) :
    Frame [.lnk, .req, .tab] s (s.releaseReset strap) :=
  ((Frame.setLnk s _ (.inl (by decide)) (.inr (by rfl)) (.inr (by rfl))).trans
    (Frame.setReq (by decide) _ _)).trans ((State.storeEntry_frame _ _ _ _).mono (by decide))

theorem State.raisePresent_frame (k : FaultKind) (s : State) :
    Frame reportBlocks s (s.raisePresent k) := by
  unfold State.raisePresent
  split
  · exact State.asEvent_frame (by decide) (by decide) ((State.occur_frame _ _).mono (by decide))
  · exact Frame.refl _ _

theorem State.loadFactory_frame (s : State) : Frame [.tab, .req] s s.loadFactory :=
  (Frame.setTab (by decide) s _).trans (Frame.setReq (by decide) _ _)

theorem State.firstPresets_frame (s : State) : Frame [.reg] s s.firstPresets :=
  Frame.foldl (fun s m => s.selectNow_frame m 0) _ s

theorem State.startFaultTimers_frame (s : State) : Frame refreshBlocks s s.startFaultTimers :=
  (Frame.setFlt (by decide) s _).trans (State.refresh_frame _)

theorem State.raiseAllPresent_frame (s : State) : Frame reportBlocks s s.raiseAllPresent :=
  Frame.foldl (fun s k => s.raisePresent_frame k) _ s

theorem State.finishInitializing_frame (s : State) : Frame initBlocks s s.finishInitializing := by
  unfold State.finishInitializing
  refine Frame.trans ?_ ((State.countChange_frame _).mono (by decide))
  refine Frame.trans ?_ ((State.raiseAllPresent_frame _).mono (by decide))
  refine Frame.trans ?_ ((State.startFaultTimers_frame _).mono (by decide))
  refine Frame.trans ?_ ((State.firstPresets_frame _).mono (by decide))
  exact s.loadFactory_frame.mono (by decide)

theorem State.initTick_frame (s : State) : Frame initBlocks s s.initTick := by
  unfold State.initTick
  dsimp only
  split
  · split
    · exact s.finishInitializing_frame
    · exact Frame.setReq (by decide) _ _
  · exact Frame.refl _ _

theorem State.restoreAll_frame (t : TableId) (s : State) : Frame writeBlocks s (s.restoreAll t) := by
  have a : ∀ u : State, ∀ es : List (Nat × List Word),
      Frame writeBlocks u (es.foldl (fun s e => s.storeEntry t e.1 e.2) u) :=
    fun u es => Frame.foldl (fun s e => (s.storeEntry_frame t e.1 e.2).mono (by decide)) es u
  unfold State.restoreAll
  dsimp only
  split
  · exact a _ _
  · exact a _ _
  · exact s.writeList_frame _ _

/-- Without a restore in flight, abandoning touches the Request Unit only. -/
theorem State.abandon_frame_none (s : State) (h : s.req.cursor = none) : Frame [.req] s s.abandon := by
  unfold State.abandon
  rw [h]
  dsimp only
  split <;> exact Frame.setReq (by decide) _ _

theorem State.abandon_frame (s : State) : Frame (.req :: writeBlocks) s s.abandon := by
  cases h : s.req.cursor with
  | none => exact (s.abandon_frame_none h).mono (by decide)
  | some c =>
    unfold State.abandon
    rw [h]
    dsimp only
    split <;> exact ((s.restoreAll_frame _).mono (by decide)).trans (Frame.setReq (by decide) _ _)

theorem State.softResetBlocks_frame (s : State) :
    Frame [.key, .seq, .bus, .eng, .reg, .prc, .out] s s.softResetBlocks :=
  ((((((Frame.setKey s _ (.inl (by decide)) (.inr (by rfl))).trans
    (Frame.setSeq _ _ (.inl (by decide)) (.inr (by rfl)))).trans (Frame.setBus (by decide) _ _)).trans
    (Frame.setEng (by decide) _ _)).trans (Frame.setReg (by decide) _ _)).trans
    (Frame.setPrc (by decide) _ _)).trans (Frame.setOut _ _ (.inl (by decide)) (.inr (by rfl)))

theorem State.reraise_frame (k : FaultKind) (b : Bool) (s : State) :
    Frame occurBlocks s (s.reraise k b) := by
  unfold State.reraise
  split
  · exact ((s.setRecord_frame _ _).mono (by decide)).trans (State.occur_frame _ _)
  · exact Frame.refl _ _

theorem State.softResetFaults_frame (s : State) : Frame occurBlocks s s.softResetFaults := by
  have a : ∀ f : FaultUnit, Frame occurBlocks s (s.setFlt f).refresh :=
    fun f => (Frame.setFlt (by decide) s f).trans ((State.refresh_frame _).mono (by decide))
  exact (((a _).trans (State.reraise_frame _ _ _)).trans (State.reraise_frame _ _ _)).trans
    (Frame.setFlt (by decide) _ _)

theorem State.softReset_frame (s : State) : Frame softBlocks s s.softReset :=
  (((((Frame.setReq (by decide) s _).trans ((State.abandon_frame _).mono (by decide))).trans
    (Frame.setReq (by decide) _ _)).trans ((State.softResetBlocks_frame _).mono (by decide))).trans
    ((State.softResetFaults_frame _).mono (by decide))).trans (Frame.setCnt (by decide) _ _)

/-- Without a restore in flight a soft reset keeps LNK, the Reply Queue, the tables, the rotors and the
Tick Count. -/
theorem State.softReset_frame_none (s : State) (h : s.req.cursor = none) :
    Frame (.req :: .reg :: .cnt :: .out :: occurBlocks) s s.softReset :=
  (((((Frame.setReq (by decide) s _).trans
    ((State.abandon_frame_none (s.setReq { s.req with resetCause := .soft }) h).mono (by decide))).trans
    (Frame.setReq (by decide) _ _)).trans ((State.softResetBlocks_frame _).mono (by decide))).trans
    ((State.softResetFaults_frame _).mono (by decide))).trans (Frame.setCnt (by decide) _ _)

/-! ### Processes of a tick -/

theorem State.loadTick_frame (s : State) : Frame [.eng, .flt] s s.loadTick := by
  unfold State.loadTick
  split
  · split
    · exact s.setEngEasing_frame _
    · exact Frame.refl _ _
  · exact Frame.refl _ _

theorem State.checkFlush_frame (s : State) : Frame [.req] s s.checkFlush := by
  unfold State.checkFlush
  split
  · exact Frame.setReq (by decide) _ _
  · exact Frame.refl _ _

theorem State.writeBackTick_frame (s : State) : Frame [.eng, .flt, .req] s s.writeBackTick := by
  unfold State.writeBackTick
  split
  · split
    · exact ((s.setEngEasing_frame _).mono (by decide)).trans ((State.checkFlush_frame _).mono (by decide))
    · exact Frame.refl _ _
  · exact Frame.refl _ _

theorem State.settleTick_frame (e : EngineId) (s : State) : Frame [.eng] s (s.settleTick e) :=
  Frame.setEng (by decide) s _

theorem State.halvingTick_frame (s : State) : Frame [.prc] s s.halvingTick :=
  Frame.setPrc (by decide) s _

theorem State.silenceTick_frame (s : State) : Frame reportBlocks s s.silenceTick := by
  unfold State.silenceTick
  dsimp only
  split
  · split
    · split
      · exact (Frame.setFlt (by decide) _ _).trans (State.conditionPresent_frame _ _)
      · exact Frame.setFlt (by decide) _ _
    · exact Frame.setFlt (by decide) _ _
  · exact Frame.refl _ _

theorem State.noticeTick_frame (s : State) : Frame [.replies, .flt] s s.noticeTick := by
  unfold State.noticeTick
  dsimp only
  split
  · exact (Frame.setFlt (by decide) _ _).trans (State.checkNotice_frame _)
  · exact Frame.refl _ _

theorem State.waitingNotice_frame (s : State) : Frame [.replies, .flt] s s.waitingNotice := by
  unfold State.waitingNotice
  split
  · exact s.queueNotice_frame
  · exact Frame.refl _ _

theorem State.cascadeMissing_frame (s : State) : Frame [.out] s s.cascadeMissing := by
  unfold State.cascadeMissing
  split
  · exact Frame.refl _ _
  · exact Frame.setOut _ _ (.inl (by decide)) (.inr (by rfl))

theorem State.tickLinkAndTables_frame (s : State) : Frame tickBlocks s s.tickLinkAndTables := by
  unfold State.tickLinkAndTables
  refine Frame.trans ?_ ((State.restoreTick_frame _).mono (by decide))
  refine Frame.trans ?_ ((State.windowTick_frame _).mono (by decide))
  refine Frame.trans ?_ ((State.quietTick_frame _).mono (by decide))
  exact s.initTick_frame.mono (by decide)

theorem State.settleTicks_frame (s : State) : Frame [.eng] s s.settleTicks :=
  Frame.foldl (fun s e => s.settleTick_frame e) _ s

theorem State.tickContactsAndEngines_frame (s : State) :
    Frame tickBlocks s s.tickContactsAndEngines := by
  unfold State.tickContactsAndEngines
  refine Frame.trans ?_ ((State.settleTicks_frame _).mono (by decide))
  refine Frame.trans ?_ ((State.writeBackTick_frame _).mono (by decide))
  refine Frame.trans ?_ ((State.loadTick_frame _).mono (by decide))
  exact (State.applyDue_frame _ s).mono (by decide)

theorem State.expireClicks_frame (s : State) : Frame [.bus] s s.expireClicks :=
  Frame.foldl (fun s _ => s.expireClick_frame) _ s

theorem State.glideTicks_frame (s : State) : Frame [.reg] s s.glideTicks :=
  Frame.foldl (fun s m => s.glideTick_frame m) _ s

theorem State.tickSound_frame (s : State) : Frame tickBlocks s s.tickSound := by
  unfold State.tickSound
  refine Frame.trans ?_ ((State.rotorTick_frame _ _).mono (by decide))
  refine Frame.trans ?_ ((State.rotorTick_frame _ _).mono (by decide))
  refine Frame.trans ?_ ((State.halvingTick_frame _).mono (by decide))
  refine Frame.trans ?_ ((State.glideTicks_frame _).mono (by decide))
  exact s.expireClicks_frame.mono (by decide)

theorem State.tickFaults_frame (s : State) : Frame tickBlocks s s.tickFaults := by
  unfold State.tickFaults
  refine Frame.trans ?_ ((State.cascadeMissing_frame _).mono (by decide))
  refine Frame.trans ?_ ((State.waitingNotice_frame _).mono (by decide))
  refine Frame.trans ?_ ((State.noticeTick_frame _).mono (by decide))
  refine Frame.trans ?_ ((State.retryTicks_frame _).mono (by decide))
  exact s.silenceTick_frame.mono (by decide)

theorem State.tickProcesses_frame (s : State) : Frame tickBlocks s s.tickProcesses := by
  unfold State.tickProcesses
  exact ((s.tickLinkAndTables_frame.trans (State.tickContactsAndEngines_frame _)).trans
    (State.tickSound_frame _)).trans (State.tickFaults_frame _)

theorem State.finishTick_frame (s : State) : Frame tickBlocks s s.finishTick :=
  s.tickProcesses_frame.trans ((State.outputStage_frame _).mono (by decide))

/-- A given tick advances the Tick Count by one. -/
theorem State.giveTick_tickCount (s : State) :
    s.giveTick.seq.tickCount = s.seq.tickCount + 1 := by
  unfold State.giveTick
  show s.finishTick.seq.tickCount + 1 = s.seq.tickCount + 1
  rw [s.finishTick_frame.tick (by decide)]

theorem State.beginTick_pending (s : State) : s.beginTick.pending = s.pending := rfl

theorem State.giveTick_pending (s : State) : s.giveTick.pending = s.pending := by
  unfold State.giveTick
  rw [State.beginTick_pending]
  exact s.finishTick_frame.pending

theorem State.fallBack_frame (s : State) : Frame (.out :: reportBlocks) s s.fallBack :=
  (Frame.setOut s _ (.inl (by decide)) (.inr (by rfl))).trans
    ((State.conditionPresent_frame _ _).mono (by decide))

theorem State.returnExternal_frame (s : State) : Frame [.out, .flt] s s.returnExternal :=
  (Frame.setOut s _ (.inl (by decide)) (.inr (by rfl))).trans
    ((State.conditionAbsent_frame _ _).mono (by decide))

/-! ### Requests -/

theorem State.changeOpState_frame (o : OpState) (s : State) :
    Frame (.req :: summaryBlocks) s (s.changeOpState o) :=
  State.asEvent_frame (f := fun s => (s.setReq { s.req with opState := o }).refresh) (by decide)
    (by decide) ((Frame.setReq (by decide) s _).trans ((State.refresh_frame _).mono (by decide)))

theorem State.queueReply_frame (s : State) (tag : BitVec 3) (status : Status) (echo : Nat)
    (data : List Word) : Frame [.replies, .place] s (s.queueReply tag status echo data) :=
  Frame.setLnk s _ (.inr (by rfl)) (.inl (by decide)) (.inl (by decide))

theorem State.holdReplyPlace_frame (s : State) : Frame [.place] s s.holdReplyPlace :=
  Frame.setLnk s _ (.inr (by rfl)) (.inr (by rfl)) (.inl (by decide))

/-- A request touches what its action touches, the Reply Queue and Reply Drops. -/
theorem State.answer_frame {l : List Block} (h : Head) (echo : Nat) (act : State → Answer) (s : State)
    (ha : ∀ t, Frame l t (act t).state) (a : Block.replies ∈ l) (b : Block.place ∈ l)
    (c : Block.cnt ∈ l) : Frame l s (s.answer h echo act) := by
  have hold : Frame l s s.holdReplyPlace := s.holdReplyPlace_frame.mono (by simpa using b)
  have queue : ∀ (t : State) (tag : BitVec 3) (st : Status) (d : List Word),
      Frame l t (t.queueReply tag st echo d) :=
    fun t tag st d => (t.queueReply_frame tag st echo d).mono (by simp [a, b])
  have drop : Frame l s s.dropReply := (s.count_frame _).mono (by simpa using c)
  unfold State.answer
  split
  · exact ha s
  · split
    · exact drop
    · exact (hold.trans (ha _)).trans (queue _ _ _ _)

theorem actWrite_frame (payload : List Word) (s : State) :
    Frame writeBlocks s (actWrite payload s).state := by
  unfold actWrite
  split
  · exact Frame.refl _ _
  · split
    · exact Frame.refl _ _
    · split
      · exact s.writeEntries_frame _ _
      · exact Frame.refl _ _

theorem actRead_state (payload : List Word) (s : State) : (actRead payload s).state = s := by
  unfold actRead
  split
  · rfl
  · split
    · rfl
    · split <;> rfl

@[simp] theorem answered_state (s : State) : (answered s).state = s := rfl

@[simp] theorem answered_status (s : State) : (answered s).status = .ok := rfl

@[simp] theorem answered_data (s : State) : (answered s).data = [] := rfl

@[simp] theorem refused_state (st : Status) (s : State) : (refused st s).state = s := rfl

@[simp] theorem refused_status (st : Status) (s : State) : (refused st s).status = st := rfl

@[simp] theorem refused_data (st : Status) (s : State) : (refused st s).data = [] := rfl

/-- What a command but SOFT_RESET can touch. -/
abbrev commandBlocks : List Block := .req :: .reg :: .cnt :: .out :: reportBlocks

theorem commandAction_frame (code : Nat) (act : Nat → List Word → State → Answer)
    (h : commandAction code = some act) (arg : Nat) (rest : List Word) (s : State) :
    Frame commandBlocks s (act arg rest s).state := by
  have r : ∀ t ms, Frame commandBlocks t (State.release ms t) :=
    fun t ms => (t.release_frame ms).mono (by decide)
  have o : ∀ t o, Frame commandBlocks t (State.changeOpState o t) :=
    fun t o => (t.changeOpState_frame o).mono (by decide)
  unfold commandAction at h
  split at h <;> cases h
  · unfold actPlay
    split
    · exact Frame.refl _ _
    · split
      · exact Frame.refl _ _
      · split
        · exact Frame.refl _ _
        · rw [answered_state]
          exact o _ _
  · unfold actStandby
    split
    · exact Frame.refl _ _
    · split
      · rw [answered_state]
        exact (r s _).trans (o _ _)
      · exact Frame.refl _ _
  · unfold actAllKeysUp
    split
    · rw [answered_state]
      exact r s _
    · exact Frame.refl _ _
  · unfold actClearFaults
    split
    · exact Frame.refl _ _
    · rw [answered_state]
      exact s.clearFaults_frame.mono (by decide)
  · unfold actSelectPreset
    dsimp only
    split
    · exact Frame.refl _ _
    · split
      · rw [answered_state]
        exact (s.selectNow_frame _ _).mono (by decide)
      · rw [answered_state]
        exact (s.selectGlide_frame _ _).mono (by decide)
      · rw [answered_state]
        exact (s.selectNextPlay_frame _ _).mono (by decide)
      · exact Frame.refl _ _
  · unfold actFlush
    split
    · exact Frame.refl _ _
    · split
      · exact Frame.refl _ _
      · exact ((Frame.setReq (by decide) s _).trans (Frame.setEng (by decide) _ _)).trans
          ((State.checkFlush_frame _).mono (by decide))
  · unfold actRestore
    split
    · exact Frame.refl _ _
    · split
      · exact Frame.refl _ _
      · split
        · exact Frame.refl _ _
        · split
          · exact Frame.refl _ _
          · exact Frame.setReq (by decide) s _
  · unfold actClearCounters
    split
    · exact Frame.refl _ _
    · exact Frame.setCnt (by decide) s _
  · unfold actSoftReset
    split <;> exact Frame.refl _ _

theorem actCommand_frame (payload : List Word) (s : State) :
    Frame commandBlocks s (actCommand payload s).state := by
  unfold actCommand
  split
  · exact Frame.refl _ _
  · split
    · exact Frame.refl _ _
    · rename_i act h
      split
      · exact Frame.refl _ _
      · exact commandAction_frame _ act h _ _ s

theorem whenReady_frame {l : List Block} {act : State → Answer} (h : ∀ t, Frame l t (act t).state)
    (s : State) : Frame l s (whenReady act s).state := by
  unfold whenReady
  split
  · exact Frame.refl _ _
  · exact h s

theorem State.takeWrite_frame (h : Head) (payload : List Word) (s : State) :
    Frame (.place :: .cnt :: writeBlocks) s (s.takeWrite h payload) :=
  State.answer_frame _ _ _ _
    (whenReady_frame fun t => (actWrite_frame payload t).mono (by decide)) (by decide) (by decide)
    (by decide)

theorem State.takeCommand_frame (h : Head) (payload : List Word) (s : State) :
    Frame (.place :: softBlocks) s (s.takeCommand h payload) := by
  have a : Frame (.place :: softBlocks) s
      (s.answer h (requestHigh payload) (whenReady (actCommand payload))) :=
    State.answer_frame _ _ _ _
      (whenReady_frame fun t => (actCommand_frame payload t).mono (by decide)) (by decide) (by decide)
      (by decide)
  unfold State.takeCommand
  dsimp only
  split
  · exact a.trans ((State.softReset_frame _).mono (by decide))
  · exact a

theorem State.takeRead_frame (h : Head) (payload : List Word) (s : State) :
    Frame [.replies, .place, .cnt] s (s.takeRead h payload) := by
  unfold State.takeRead
  split
  · exact Frame.refl _ _
  · refine State.answer_frame _ _ _ _ (fun t => ?_) (by decide) (by decide) (by decide)
    unfold actReadAnyState
    split
    · exact Frame.refl _ _
    · rw [actRead_state]
      exact Frame.refl _ _

theorem State.takeUnknown_frame (h : Head) (kind : Nat) (s : State) :
    Frame [.replies, .place, .cnt] s (s.takeUnknown h kind) :=
  ((s.count_frame _).mono (by decide)).trans
    (State.answer_frame _ _ _ _ (fun t => Frame.refl _ _) (by decide) (by decide) (by decide))

end Sys2Proof.Machine
end

