-- ==== Sys2Proof/Laws/Requests.lean ====
section
/-!
SUPPORT. What a command's arm comes to: while the part runs, and for a request with or without a place
for its reply.
-/

namespace Sys2Proof.Machine

theorem whenRunning_running {f : State → State} {s : State} (h : s.Running) :
    whenRunning f s = .next (f s) := by
  unfold whenRunning
  rw [h]
  rfl

theorem whenRunning_held {f : State → State} {s : State} (h : s.req.held = true) :
    whenRunning f s = .next s := by
  unfold whenRunning
  rw [h]
  rfl

theorem whenReady_ready {act : State → Answer} {s : State} (h : s.req.opState ≠ .initializing) :
    whenReady act s = act s := by
  unfold whenReady
  rw [if_neg h]

theorem whenReady_initializing {act : State → Answer} {s : State} (h : s.req.opState = .initializing) :
    whenReady act s = refused .notReady s := by
  unfold whenReady
  rw [if_pos h]

theorem State.replyFull_false {s : State} (h : s.lnk.replies.length < 4) : s.replyFull = false := by
  unfold State.replyFull replyCapacity
  simpa using h

theorem State.replyFull_true {s : State} (h : 4 ≤ s.lnk.replies.length) : s.replyFull = true := by
  unfold State.replyFull replyCapacity
  simpa using h

theorem State.answer_broadcast {h : Head} (b : h.sent = .broadcast) (echo : Nat) (act : State → Answer)
    (s : State) : s.answer h echo act = (act s).state := by
  unfold State.answer
  rw [b]

theorem State.answer_full {h : Head} (b : h.sent = .addressed) (echo : Nat) (act : State → Answer)
    {s : State} (f : 4 ≤ s.lnk.replies.length) : s.answer h echo act = s.dropReply := by
  unfold State.answer
  rw [b]
  simp [State.replyFull_true f]

theorem State.answer_room {h : Head} (b : h.sent = .addressed) (echo : Nat) (act : State → Answer)
    {s : State} (f : s.lnk.replies.length < 4) :
    s.answer h echo act
      = (act s.holdReplyPlace).state.queueReply h.tag (act s.holdReplyPlace).status echo
          (act s.holdReplyPlace).data := by
  unfold State.answer
  rw [b]
  simp [State.replyFull_false f]

/-- A request whose action answers in the same way with and without the place held, and queues some
notices: the Reply Queue it leaves. -/
theorem State.answer_replied {h : Head} {echo : Nat} {act : State → Answer} {s : State}
    {status : Status} {data : List Word} {notices : List (List Word)} (room : s.RoomFor h)
    (ok : ∀ t, t = s ∨ t = s.holdReplyPlace → (act t).status = status ∧ (act t).data = data ∧
      (act t).state.lnk.replies = s.lnk.replies ++ notices) :
    Replied h status echo data notices s (s.answer h echo act) := by
  unfold Replied
  cases b : h.sent with
  | broadcast =>
    rw [State.answer_broadcast b]
    simpa using (ok s (.inl rfl)).2.2
  | addressed =>
    obtain ⟨x, y, z⟩ := ok s.holdReplyPlace (.inr rfl)
    rw [State.answer_room b _ _ (room b), x, y]
    simp only [State.queueReply, State.setLnk_lnk, z]
    rfl

end Sys2Proof.Machine
end

