-- ==== Sys2Proof/Laws/Tick.lean ====
section
/-!
SUPPORT. The processes of a tick as rows of the table: rows one after another, what keeps the part running,
and the repeated processes of a tick as repeated rows (Machine/Tick.lean).
-/

namespace Sys2Proof.Machine

/-! ### Rows one after another -/

theorem execAll_append {s t : State} {l : List Instr} (m : List Instr) (h : execAll l s = .next t) :
    execAll (l ++ m) s = execAll m t := by
  induction l generalizing s with
  | nil => cases h; rfl
  | cons c l ih =>
    simp only [execAll, List.cons_append] at h ⊢
    cases e : exec c s with
    | next v => rw [e] at h; exact ih h
    | fault f => rw [e] at h; cases h
    | refused r => rw [e] at h; cases h

theorem execAll_cons {s t : State} {c : Instr} (l : List Instr) (h : exec c s = .next t) :
    execAll (c :: l) s = execAll l t := by
  simp only [execAll, h]

/-- Rows whose operation keeps the part running come to the operation over their operands in turn. -/
theorem execAll_map {α : Type} {row : α → Instr} {f : State → α → State}
    (run : ∀ s a, s.Running → exec (row a) s = .next (f s a))
    (keep : ∀ s a, s.Running → (f s a).Running) (l : List α) (s : State) (h : s.Running) :
    execAll (l.map row) s = .next (l.foldl f s) ∧ (l.foldl f s).Running := by
  induction l generalizing s with
  | nil => exact ⟨rfl, h⟩
  | cons a l ih =>
    rw [List.map_cons, execAll_cons _ (run s a h)]
    exact ih _ (keep s a h)

/-! ### What keeps the part running -/

theorem Frame.running {l : List Block} {s t : State} (f : Frame l s t) (n : Block.req ∉ l)
    (h : s.Running) : t.Running := by
  show t.req.held = false
  rw [f.req n]
  exact h

theorem State.finishInitializing_running {s : State} (h : s.Running) : s.finishInitializing.Running :=
  (State.countChange_frame _).running (by decide)
    ((State.raiseAllPresent_frame _).running (by decide)
      ((State.startFaultTimers_frame _).running (by decide)
        ((State.firstPresets_frame _).running (by decide) h)))

theorem State.initTick_running {s : State} (h : s.Running) : s.initTick.Running := by
  unfold State.initTick
  dsimp only
  split
  · split
    · exact State.finishInitializing_running h
    · exact h
  · exact h

theorem State.restoreTick_running {s : State} (h : s.Running) : s.restoreTick.Running := by
  unfold State.restoreTick
  split
  · exact h
  · dsimp only
    split
    · exact h
    · split <;> exact (State.writeEntries_frame _ _ s).running (by decide) h

theorem State.checkFlush_running {s : State} (h : s.Running) : s.checkFlush.Running := by
  unfold State.checkFlush
  split <;> exact h

theorem State.writeBackTick_running {s : State} (h : s.Running) : s.writeBackTick.Running := by
  unfold State.writeBackTick
  split
  · split
    · exact State.checkFlush_running ((State.setEngEasing_frame _ _).running (by decide) h)
    · exact h
  · exact h

theorem State.tickLinkAndTables_running {s : State} (h : s.Running) : s.tickLinkAndTables.Running :=
  State.restoreTick_running ((State.windowTick_frame _).running (by decide)
    ((State.quietTick_frame _).running (by decide) (State.initTick_running h)))

theorem State.tickContactsAndEngines_running {s : State} (h : s.Running) :
    s.tickContactsAndEngines.Running :=
  (State.settleTicks_frame _).running (by decide) (State.writeBackTick_running
    ((State.loadTick_frame _).running (by decide) ((State.applyDue_frame _ _).running (by decide) h)))

theorem State.tickSound_running {s : State} (h : s.Running) : s.tickSound.Running := by
  rw [State.tickSound]
  exact (State.rotorTick_frame _ _).running (by decide) ((State.rotorTick_frame _ _).running (by decide)
    ((State.halvingTick_frame _).running (by decide) ((State.glideTicks_frame _).running (by decide)
      ((State.expireClicks_frame _).running (by decide) h))))

/-! ### Repeated processes as repeated rows -/

/-- Where no entry is due, the row does nothing, however often it comes. -/
theorem scheduleEntryDue_idle {s : State} (h : s.Running) (idle : s.applyHead = s) (n : Nat) :
    execAll (List.replicate n .scheduleEntryDue) s = .next s := by
  induction n with
  | zero => rfl
  | succ n ih =>
    rw [List.replicate_succ, execAll_cons _ (t := s) (by
      show whenRunning State.applyHead s = _
      rw [whenRunning_running h, idle]), ih]

theorem applyDue_eq_rows (n : Nat) {s : State} (h : s.Running) :
    execAll (List.replicate n .scheduleEntryDue) s = .next (State.applyDue n s) := by
  induction n generalizing s with
  | zero => rfl
  | succ n ih =>
    by_cases due : ∃ x rest, s.seq.schedule = x :: rest ∧ x.due = s.seq.tickCount
    · obtain ⟨x, rest, e, d⟩ := due
      rw [List.replicate_succ, execAll_cons _ (c := .scheduleEntryDue) (t := s.applyHead) (whenRunning_running h),
        ih (s.applyHead_frame.running (by decide) h)]
      simp only [State.applyDue, e, if_pos d]
    · have idle : s.applyHead = s ∧ State.applyDue (n + 1) s = s := by
        cases e : s.seq.schedule with
        | nil => simp [State.applyHead, State.applyDue, e]
        | cons x rest =>
          have d : ¬ x.due = s.seq.tickCount := fun d => due ⟨x, rest, e, d⟩
          simp [State.applyHead, State.applyDue, e, d]
      rw [scheduleEntryDue_idle h idle.1, idle.2]

theorem expireClicks_eq_rows {s : State} (h : s.Running) :
    execAll (List.replicate s.bus.clicks.length .clickPulseExpiry) s = .next s.expireClicks := by
  rw [← List.length_range (n := s.bus.clicks.length), ← List.map_const]
  exact (execAll_map (row := fun _ : Nat => .clickPulseExpiry) (f := fun s _ => s.expireClick)
    (fun _ _ h => whenRunning_running h) (fun s _ h => s.expireClick_frame.running (by decide) h) _ s h).1

theorem settleTicks_eq_rows {s : State} (h : s.Running) :
    execAll ((List.finRange 64).map Instr.settleDone) s = .next s.settleTicks :=
  (execAll_map (row := Instr.settleDone) (f := fun s e => s.settleTick e) (fun _ _ h => whenRunning_running h)
    (fun s e h => (s.settleTick_frame e).running (by decide) h) _ s h).1

theorem glideTicks_eq_rows {s : State} (h : s.Running) :
    execAll (allManuals.map Instr.glideStep) s = .next s.glideTicks :=
  (execAll_map (row := Instr.glideStep) (f := fun s m => s.glideTick m) (fun _ _ h => whenRunning_running h)
    (fun s m h => (s.glideTick_frame m).running (by decide) h) _ s h).1

theorem retryTicks_eq_rows {s : State} (h : s.Running) :
    execAll (allKinds.map Instr.retryExpiry) s = .next s.retryTicks :=
  (execAll_map (row := Instr.retryExpiry) (f := fun s k => s.retryTick k) (fun _ _ h => whenRunning_running h)
    (fun s k h => (s.retryTick_frame k).running (by decide) h) _ s h).1

/-! ### The cascade sample of the tick -/

theorem Frame.judged {l : List Block} {s t : State} (f : Frame l s t) (n : Block.out ∉ l) :
    t.out.cascadeJudged = s.out.cascadeJudged := by
  show ({ t.out with muteRequest := s.out.muteRequest } : OutputUnit).cascadeJudged = _
  rw [f.out n]

theorem State.writeEntry_judged (t : TableId) (s : State) (i : Nat) (ws : List Word) :
    (s.writeEntry t i ws).out.cascadeJudged = s.out.cascadeJudged := by
  unfold State.writeEntry
  split
  · exact (State.reconfigure_frame _ _ _).judged (by decide)
  · dsimp only
    split
    · exact (State.silenceWritten_frame _).judged (by decide)
    · split
      · exact (State.enableWritten_frame _ _).judged (by decide)
      · rfl
  · split
    · rw [State.storeEntry, State.setTab_out]
      exact (State.retryTicks_frame s).judged (by decide)
    · rfl
  · dsimp only
    split <;> rfl
  · dsimp only
    split
    · unfold State.modeWritten
      split <;> rfl
    · rfl
  · rfl

theorem State.writeEntries_judged (t : TableId) (es : List (Nat × List Word)) (s : State) :
    (s.writeEntries t es).out.cascadeJudged = s.out.cascadeJudged := by
  have list : ∀ s : State, (s.writeList t es).out.cascadeJudged = s.out.cascadeJudged := by
    unfold State.writeList
    induction es with
    | nil => exact fun _ => rfl
    | cons e es ih => exact fun s => (ih _).trans (s.writeEntry_judged t e.1 e.2)
  unfold State.writeEntries
  split
  · unfold State.asEvent
    dsimp only
    split
    · exact list s
    · exact ((State.countChange_frame _).judged (by decide)).trans (list s)
  · exact ((State.checkNotice_frame _).judged (by decide)).trans (list s)
  · exact list s

theorem State.restoreTick_judged (s : State) : s.restoreTick.out.cascadeJudged = s.out.cascadeJudged := by
  unfold State.restoreTick
  split
  · rfl
  · dsimp only
    split
    · rfl
    · split <;> exact State.writeEntries_judged _ _ s

/-- A tick's last process: a tick with a cascade sample judged is left alone, and one without has had a bad
one (R168). -/
theorem cascadeMissing_eq (s : State) (h : s.Running) :
    (s.out.cascadeJudged = true → s.cascadeMissing = s) ∧
    (s.out.cascadeJudged = false → exec (.cascadeSample .missing) s = .next s.cascadeMissing) := by
  refine ⟨fun j => by simp [State.cascadeMissing, j], fun j => ?_⟩
  rw [exec, execCascadeSample, whenRunning_running h]
  simp [State.cascadeMissing, j, OutputUnit.cascade]

end Sys2Proof.Machine
end

