-- ==== Sys2Proof/Laws/Waveform.lean ====
section
/-!
SUPPORT. What the harmonic content of the shapes comes to: shape 0 is a pure sine, and each step up adds to
the upper harmonics (R87).
-/

namespace Sys2Proof.Machine

/-- Shape 0 has no upper harmonics. -/
theorem WheelVoices.waveform_zero (v : WheelVoices) (phase : BitVec 24) :
    v.waveform 0 phase = v.level * sine phase := by
  simp [WheelVoices.waveform, v.pure]

/-- The shapes are as R87 says, whatever the free value. -/
theorem WheelVoices.shapesSound (v : WheelVoices) : v.ShapesSound where
  sine := sine_near
  pure := ⟨v.heard, v.waveform_zero⟩
  harmonics := fun _ _ => rfl
  more := v.more

end Sys2Proof.Machine
end

