-- ==== Sys2Proof/Tests/Slice0.lean ====
section
/-!
SUPPORT. Tests on small states: what the well-formedness check refuses, and for each statement that has
hypotheses a state and operands that meet them, clause by clause.
-/

namespace Sys2Proof.Tests

open Sys2Proof Sys2Proof.Machine

-- Each evaluation below waits for the kernel: one after another, lest each hold a thread while it waits.
set_option Elab.async false

/-! ### States and operands -/

/-- The state after reset in another operating state; its tables hold zeros, so every raw key maps to
UPPER 0 and every fault is LATCHED with action NONE. -/
def inState (o : OpState) : State := State.reset.setReq { State.reset.req with opState := o }

/-- STANDBY. -/
def standby : State := inState .standby

/-- PLAYING. -/
def playing : State := inState .playing

/-- PLAYING with the link up. -/
def linked : State := playing.setLnk { playing.lnk with linked := true }

/-- A timer at a count, its tick still to come. -/
def dueAt (n : Nat) : Timer := ⟨true, n, false⟩

/-- An addressed request's head. -/
def addressed : Head := ⟨.addressed, 3⟩

/-- A broadcast request's head. -/
def broadcast : Head := ⟨.broadcast, 3⟩

/-- A state with n frames in its Reply Queue. -/
def withReplies (s : State) (n : Nat) : State := s.setLnk { s.lnk with replies := List.replicate n [0] }

/-- A state in which the first UPPER key has a state. -/
def withKey (s : State) (st : KeyState) : State := s.setKeyState 0 st

/-- A state under RESTORE_FACTORY of a table. -/
def restoringTable (s : State) (t : TableId) : State :=
  s.setReq { s.req with inFlight := some .restoreFactory, cursor := some ⟨t, 0, false⟩ }

theorem test_standby_is_ready : standby.Ready := ⟨rfl, by decide⟩

theorem test_playing_is_ready : playing.Ready ∧ playing.Playing := ⟨⟨rfl, by decide⟩, rfl, rfl⟩

theorem test_room : playing.RoomFor addressed ∧ (withReplies playing 3).RoomFor addressed ∧
    ¬ (withReplies playing 4).RoomFor addressed ∧ (withReplies playing 4).RoomFor broadcast :=
  ⟨fun _ => by decide, fun _ => by decide, fun h => absurd (h rfl) (by decide), nofun⟩

/-- A WRITE passes its checks, from a check that can be evaluated. -/
theorem test_helper_passes {table : TableId} {payload : List Word} {s : State}
    (h : (tableOfId (requestHigh payload) = some table ∧ requestLow payload ≠ 0 ∧
      payload.length = 2 + requestLow payload * tableWidth table) ∧ tableWritable table = true ∧
      (payload.getD 1 0).toNat + requestLow payload ≤ tableEntries table ∧
      (table ≠ .wheelPitch ∨ s.req.opState ≠ .playing) ∧
      (∀ j < requestLow payload,
        entryOk table ((payload.getD 1 0).toNat + j) (dataWords table payload j) = true) ∧
      (table ≠ .keyMap ∨ ∀ k, s.keyState k = .up)) (c : s.req.cursor = none) :
    WritePasses table payload s where
  id := h.1.1
  count := h.1.2.1
  length := h.1.2.2
  writable := h.2.1
  stopped e := h.2.2.2.1.resolve_left (fun n => n e)
  bound := h.2.2.1
  values := h.2.2.2.2.1
  unused e j _ k _ := h.2.2.2.2.2.resolve_left (fun n => n e) k
  free r e := by rw [c] at e; cases e

/-! ### What the well-formedness check refuses -/

theorem test_wellFormed_payload : (Instr.write addressed (List.replicate 15 0)).wellFormed = true ∧
    (Instr.write addressed (List.replicate 16 0)).wellFormed = false ∧
    (Instr.read addressed (List.replicate 16 0)).wellFormed = false := by decide

theorem test_wellFormed_data : (Instr.writeKeyMap addressed 1 0 (List.replicate 13 0)).wellFormed = true ∧
    (Instr.writeKeyMap addressed 1 0 (List.replicate 14 0)).wellFormed = false ∧
    (Instr.writeWheelPitch addressed 1 0 (List.replicate 14 0)).wellFormed = false ∧
    (Instr.writeFaultConfiguration addressed 1 0 (List.replicate 14 0)).wellFormed = false ∧
    (Instr.writeRotorSettings addressed 1 0 (List.replicate 14 0)).wellFormed = false ∧
    (Instr.writeOutputSettings addressed 1 0 (List.replicate 14 0)).wellFormed = false := by decide

theorem test_wellFormed_notice : (Instr.writeNoticeSettings addressed .enableAndCount []).wellFormed = false ∧
    (Instr.writeNoticeSettings addressed .enableAndCount [1, 2, 3]).wellFormed = false ∧
    (Instr.writeNoticeSettings addressed .time [1, 2]).wellFormed = false := by decide

theorem test_wellFormed_rest : (Instr.play addressed 0 (List.replicate 14 0)).wellFormed = true ∧
    (Instr.play addressed 0 (List.replicate 15 0)).wellFormed = false ∧
    (Instr.softReset addressed 0 (List.replicate 15 0)).wellFormed = false := by decide

theorem test_wellFormed_operands : (Instr.controlError 48 127).wellFormed = false ∧
    (Instr.controlError 48 128).wellFormed = true ∧ (Instr.wclkEdge (some 0)).wellFormed = false ∧
    (Instr.cascadeSample (.good 2)).wellFormed = false ∧
    (Instr.cascadeSample (.good (-1))).wellFormed = true := by decide +kernel

/-- No word spells a command, so the word at the front changes nothing. -/
theorem test_no_word_spells_a_command : decodeTableWord 16 0 = none ∧
    standby.withFetchWord 16 0 = standby := ⟨rfl, rfl⟩

/-! ### The step and the resets -/

theorem test_witness_idleStep :
    let s := (linked.setLnk { linked.lnk with
      transmit := .forwarding, toSend := frameOnLink [1, 2], forward := [⟨[1, 2], 2, true⟩] })
    s.pending = [] ∧ s.Running ∧ s.lnk.toSend = wordOnLink true 1 :: wordOnLink false 2 :: [] ∧ s.lnk.transmit = .forwarding ∧
      (State.inReset .powerOn).req.held = true := ⟨rfl, rfl, rfl, rfl, rfl⟩

theorem test_witness_fullReset : (State.inReset .powerOn).req.held = true ∧ State.reset.Running ∧
    exec .halving (State.inReset .powerOn) = .next (State.inReset .powerOn) := ⟨rfl, rfl, rfl⟩

theorem test_witness_initializingEnds :
    let s := fun n => State.reset.setReq { State.reset.req with initTimer := dueAt n }
    (∀ n, (s n).Running ∧ (s n).req.opState = .initializing ∧ (s n).req.initTimer.due = true ∧
      (∀ k, ((s n).record k).present = false) ∧ (s n).flt.pendingChanges = 0) ∧
    (s 2046).req.initTimer.count + 1 < 2048 ∧ 2048 ≤ (s 2047).req.initTimer.count + 1 :=
  ⟨fun _ => ⟨rfl, rfl, rfl, fun k => by cases k <;> rfl, rfl⟩, by decide, by decide⟩

/-- A LINK_LOST that stands present at the end of INITIALIZING. -/
theorem test_witness_presentCondition :
    let s := (State.reset.setReq { State.reset.req with initTimer := dueAt 2047 }).setRecord .linkLost
      ⟨true, false, none, Timer.stopped⟩
    s.Running ∧ s.req.opState = .initializing ∧ s.req.initTimer.due = true ∧
      (s.record .linkLost).present = true ∧ (s.record .linkLost).held = none ∧
      (s.record .engineShortage).present = false := by decide +kernel

/-! ### The Console Link -/

theorem test_witness_replies : (List.replicate 14 (0 : Word)).length ≤ 14 ∧ 255 < 256 ∧
    goodWord (wordOnLink true 0x1234) = true ∧ goodWord ⟨false, 0, false, false, true⟩ = false := by
  decide

theorem test_witness_searching : playing.Running ∧ playing.lnk.linked = false ∧
    goodWord (wordOnLink true 0x0780) = true ∧ goodWord ⟨true, 0, false, true, true⟩ = false ∧
    (playing.setLnk { playing.lnk with lockRun := 7 }).lnk.lockRun + 1 = 8 := by decide +kernel

theorem test_witness_outsideFrames : linked.Running ∧ linked.lnk.linked = true ∧
    linked.lnk.assembly = none ∧ linked.lnk.loss + 1 < 64 ∧ linked.station = 0 ∧
    headerKind 0x0780 = 15 ∧
    (headerKind 0x0000 = 0 ∧ headerStation 0x0000 = linked.station) ∧
    (headerKind 0xF800 = 0 ∧ headerStation 0xF800 = 31) ∧ headerKind 0x0400 = 8 ∧
    reservedWords linked.lnk.forward + (2 + headerLength 0x0478) = 17 ∧
    ¬ reservedWords [⟨[], 60, true⟩] + (2 + headerLength 0x0478) ≤ 64 := by decide +kernel

/-- A frame for another station, but for its check word. -/
def halfFrame (failed : Bool) (f : Forwarding) : State :=
  linked.setLnk { linked.lnk with assembly := some ⟨(frameWords 5 0 0 []).dropLast, failed, false, f⟩ }

theorem test_witness_framesEnd :
    let check := (frameWords 5 0 0 []).getLastD 0
    (halfFrame false .admitted).Running ∧ (halfFrame false .admitted).lnk.linked = true ∧
    (frameWords 5 0 0 []).dropLast ≠ [] ∧ goodWord (wordOnLink false check) = true ∧
    checkPasses ((frameWords 5 0 0 []).dropLast ++ [check]) = true ∧
    checkPasses ((frameWords 5 0 0 []).dropLast ++ [check + 1]) = false ∧
    ((frameWords 5 0 0 []).dropLast ++ [check]).length
      = 2 + headerLength ((frameWords 5 0 0 []).dropLast.headD 0) ∧
    goodWord (wordOnLink true 0x0780) = true ∧ headerKind 0x0780 = 15 := by decide +kernel

/-- A frame in its middle, and the same after 63 bad words. -/
def middle (loss : Nat) : State :=
  linked.setLnk { linked.lnk with loss := loss, assembly := some ⟨[0x2810], false, false, .notForwarded⟩ }

/-- The link, the frame in assembly and the drops after a word. -/
def wordTaken (w : LinkWord) (s : State) : (Bool × Option (List Word × Bool)) × Word × Word × Bool :=
  match exec (.linkWord w) s with
  | .next t => ((t.lnk.linked, t.lnk.assembly.map (fun a => (a.words, a.failed))), t.cnt.shortFrames,
      t.cnt.checkDrops, (t.record .linkErrors).flag)
  | _ => ((false, none), 0, 0, false)

/-- A bad word takes a place and fails the frame, the 64th also loses the link; a marker word of Kind 0
opens the next frame, after a Short Frame or a Check Drop. -/
theorem test_witness_framesGoOn :
    let bad : LinkWord := ⟨true, 7, false, false, true⟩
    let next := wordOnLink true 0x2800
    goodWord bad = false ∧ goodWord next = true ∧ headerKind 0x2800 = 0 ∧
    [wordTaken bad (middle 0), wordTaken bad (middle 63), wordTaken next (middle 0),
      wordTaken next (halfFrame true .admitted), wordTaken next (halfFrame true .refused)]
    = [((true, some ([0x2810, 7], true)), 0, 0, false), ((false, none), 0, 0, false),
      ((true, some ([0x2800], false)), 1, 0, false), ((true, some ([0x2800], false)), 0, 1, true),
      ((true, some ([0x2800], false)), 0, 0, false)] := by decide +kernel

theorem test_witness_frames : linked.Running ∧ linked.lnk.linked = true ∧ linked.lnk.assembly = none ∧
    linked.station < 31 ∧ (List.replicate 15 (0 : Word)).length ≤ 15 ∧
    (∀ f ∈ linked.lnk.forward, f.complete = true) ∧ (5 ≠ 31 ∧ 5 ≠ linked.station) ∧
    reservedWords linked.lnk.forward + (2 + 15) ≤ 64 := by decide +kernel

/-- A broadcast frame finds room, or a Forward Queue of complete frames without it. -/
theorem test_witness_broadcastFrames :
    let full := linked.setLnk { linked.lnk with forward := [⟨[0x2800], 60, true⟩] }
    full.Running ∧ full.lnk.linked = true ∧ full.lnk.assembly = none ∧
    (∀ f ∈ full.lnk.forward, f.complete = true) ∧ ¬ reservedWords full.lnk.forward + (2 + 15) ≤ 64 ∧
    (match execAll ((frameOnLink (frameWords 31 0 0 [])).map Instr.linkWord) linked with
     | .next t => (t.lnk.forward.length, t.flt.silence)
     | _ => (0, Timer.stopped)) = (1, Timer.stopped) ∧
    (match execAll ((frameOnLink (frameWords 31 0 0 [0, 0, 0])).map Instr.linkWord) full with
     | .next t => (t.lnk.forward.length, t.cnt.forwardDrops, t.cnt.goodFrames)
     | _ => (0, 0, 0)) = (1, 1, 1) := by decide +kernel

/-- A broadcast CONTROL frame with one drawbar move, word by word, moves the drawbar. -/
theorem test_control_frame_moves_a_drawbar :
    (match execAll ((frameOnLink (frameWords 31 1 0 [0x0108])).map Instr.linkWord) linked with
     | .next t => ((t.reg.manualBars .upper)[1]).level
     | _ => 0) = 8 := by decide +kernel

/-- The listening station, whose number is 31, takes a broadcast frame and forwards it. -/
theorem test_witness_listeningStation :
    let s := linked.setTab { linked.tab with linkSettings := linked.tab.linkSettings.set 0 31 }
    s.Running ∧ s.lnk.linked = true ∧ s.lnk.assembly = none ∧ s.station = 31 ∧
    (∀ f ∈ s.lnk.forward, f.complete = true) ∧
    (match execAll ((frameOnLink (frameWords 31 1 0 [0x2808])).map Instr.linkWord) s with
     | .next t => (((t.reg.manualBars .pedal)[8]).level, t.lnk.forward.length)
     | _ => (0, 0)) = (8, 1) := by decide +kernel

/-- Words of a CONTROL frame and the rows they are, at the ends of the ranges of R118. -/
theorem test_control_words_are_rows :
    [0x0008, 0x1800, 0x2808, 0x3007, 0x3A01, 0x4803, 0x4900].map controlCommand
      = [.drawbarMove .upper 0 8, .drawbarMove .lower 8 0, .drawbarMove .pedal 8 8, .expressionMove 7,
         .scannerMove .onLower 1, .controlRelease 3, .controlError 0x49 0] := by decide +kernel

/-- COMMANDs and the rows they are: every code has one, SELECT_PRESET in each of its three modes. -/
theorem test_witness_commandRows :
    commandRequest (.selectPresetGlide addressed 2 2 3 255) = some (addressed, [0x0502, 0x8DFF]) ∧
    commandRequest (.softReset broadcast 0 [7]) = some (broadcast, [0x0900, 7]) ∧
    1 ≤ requestHigh [0x0502, 0x8DFF] ∧ requestHigh [0x0900, 7] ≤ 9 ∧
    bitsOf ([0x0502, 0x8DFF].getD 1 0) 9 8 ≠ 3 ∧ bitsOf ([0x0500, 0x0300].getD 1 0) 9 8 = 3 := by
  decide +kernel

theorem test_witness_linkLost :
    let quiet := fun n => linked.setLnk { linked.lnk with quiet := dueAt n }
    let window := fun n w => playing.setLnk { playing.lnk with windowTimer := dueAt n, window := w }
    (quiet 510).lnk.quiet.due = true ∧ (quiet 510).lnk.quiet.count + 1 < 512 ∧
    512 ≤ (quiet 511).lnk.quiet.count + 1 ∧ linked.lnk.quiet.due = false ∧
    (linked.setLnk { linked.lnk with loss := 63 }).lnk.loss + 1 = 64 ∧
    (window 2046 0).lnk.windowTimer.due = true ∧ (window 2046 0).lnk.windowTimer.count + 1 < 2048 ∧
    2048 ≤ (window 2047 2).lnk.windowTimer.count + 1 ∧ (window 2047 2).lnk.window < 3 ∧
    3 ≤ (window 2047 3).lnk.window ∧ playing.lnk.linked = false := by decide +kernel

/-- The fourth search window about to end. -/
def searchFails (s : State) : State := s.setLnk { s.lnk with windowTimer := dueAt 2047, window := 3 }

/-- The LINK_LOST record and FAULT once it has ended. -/
def lostRecord (s : State) : Option (FaultRecord × Bool) :=
  match exec .searchWindowEnd (searchFails s) with
  | .next t => some (t.record .linkLost, t.flt.fault)
  | _ => none

/-- A condition reported present: an occurrence under each mode, nothing when it stands present already, and
only remembered in INITIALIZING. -/
theorem test_witness_conditionReported :
    let mode := fun w => playing.setFaultEntry .linkLost w
    let known := ⟨true, false, none, Timer.stopped⟩
    (mode 0x0021).faultAction .linkLost = .release ∧ ((mode 0x0021).faultMode .linkLost).holds = true ∧
    [lostRecord (mode 0x0011), lostRecord (mode 0x0002), lostRecord (mode 0x0003),
      lostRecord (playing.setRecord .linkLost known), lostRecord (inState .initializing)]
    = [some (⟨true, true, some .mute, Timer.stopped⟩, true),
      some (⟨true, true, none, Timer.stopped⟩, false), some (known, false), some (known, false),
      some (known, false)] := by decide +kernel

theorem test_witness_arbiter :
    let busy := fun n => linked.setLnk { linked.lnk with
      forward := [⟨[0x2800, 0], 2, true⟩], replies := [[0x0400, 0]], waitCount := n }
    let after := fun s => (match exec .transmitterFree s with
      | .next t => (t.lnk.transmit, t.lnk.waitCount)
      | _ => (.stopLevel, 0))
    after (busy 3) = (Transmit.forwarding, 4) ∧ after (busy 4) = (.replying, 0) ∧
    after linked = (.idle, 0) ∧ after (withReplies linked 1) = (.replying, 0) ∧
    after playing = (.idle, 0) := by decide +kernel

/-! ### Requests and tables -/

theorem test_witness_turnedAway :
    assignedRequest (.writeStationNumber addressed 5)
      = some (addressed, writePayload 11 1 0 [5]) ∧
    assignedRequest (.standby addressed 0 []) = some (addressed, [0x0200]) ∧
    assignedRequest (.read addressed [0x1001, 0]) = some (addressed, [0x1001, 0]) ∧
    requestHigh [0x1001, 0] ≠ 15 ∧ State.reset.req.opState = .initializing ∧
    State.reset.RoomFor addressed ∧ 4 ≤ (withReplies playing 4).lnk.replies.length := by decide +kernel

/-- Each check of R31 has a WRITE that reaches it and fails. -/
theorem test_witness_writeChecks :
    let check := fun (s : State) (payload : List Word) =>
      (match tableOfId (requestHigh payload) with
       | some t => some (s.writeCheck t payload)
       | none => none)
    check playing [0x1601, 0, 0] = none ∧ check playing [0x0100, 0] = some .badLength ∧
    check playing [0x0F01, 7, 0] = some .readOnly ∧
    check playing [0x0401, 95, 0, 0] = some .wrongState ∧
    check playing [0x0101, 512, 0] = some .badIndex ∧ check playing [0x0201, 27, 256] = some .badValue ∧
    check (withKey playing .down) [0x0101, 511, 0] = some .inUse ∧
    check (restoringTable standby .keyMap) [0x0101, 511, 0] = some .busy ∧
    check playing [0x0101, 511, 0] = some .ok := by decide +kernel

theorem test_witness_plainWrites : WritePasses .presets [0x0801, 431, 8] playing ∧
    WritePasses .keyMap (writePayload 1 1 511 [0x0098]) playing ∧
    WritePasses .wheelPitch (writePayload 4 1 95 [127, 0xFFFF]) standby ∧
    writeRequest (.writeKeyMap addressed 1 511 [0x0098])
      = some (addressed, writePayload 1 1 511 [0x0098]) ∧
    TableId.plain .presets = true ∧ WritePasses .playSettings [0x0C03, 10, 1008, 255, 1] playing ∧
    WritePasses .playSettings [0x0C01, 13, 1] playing ∧ writesEntry [0x0C01, 13, 1] 13 ∧
    ¬ writesEntry [0x0C03, 10, 1008, 255, 1] 13 :=
  ⟨test_helper_passes (by decide +kernel) rfl, test_helper_passes (by decide +kernel) rfl,
    test_helper_passes (by decide +kernel) rfl, rfl, rfl, test_helper_passes (by decide +kernel) rfl,
    test_helper_passes (by decide +kernel) rfl, by unfold writesEntry; decide +kernel,
    by unfold writesEntry; decide +kernel⟩

theorem test_witness_linkSettings :
    WritePasses .linkSettings (writePayload 11 1 0 [30]) playing ∧
    WritePasses .linkSettings (writePayload 11 1 1 [0]) playing ∧
    WritePasses .linkSettings (writePayload 11 1 1 [7]) playing ∧
    WritePasses .linkSettings (writePayload 11 1 2 [0x8001]) playing ∧
    WritePasses .linkSettings (writePayload 11 2 2 [0x0007, 255]) playing ∧
    playing.noticeEnable = false ∧
    writeRequest (.writeNoticeSettings addressed .enableAndCount [0x0007, 255])
      = some (addressed, writePayload 11 2 2 [0x0007, 255]) :=
  ⟨test_helper_passes (by decide +kernel) rfl, test_helper_passes (by decide +kernel) rfl,
    test_helper_passes (by decide +kernel) rfl, test_helper_passes (by decide +kernel) rfl,
    test_helper_passes (by decide +kernel) rfl, rfl, rfl⟩

theorem test_witness_rotorAndOutputSettings :
    let fast := fun sel => playing.setRot { playing.rot with selector := sel }
    WritePasses .rotorSettings (writePayload 13 1 0 [1500]) (fast .slow) ∧
    WritePasses .rotorSettings (writePayload 13 1 5 [0]) (fast .fast) ∧
    WritePasses .outputSettings (writePayload 14 1 11 [0x0004]) playing ∧
    limitModeOfWord 0x0004 ≠ playing.limitMode 3 :=
  ⟨test_helper_passes (by decide +kernel) rfl, test_helper_passes (by decide +kernel) rfl,
    test_helper_passes (by decide +kernel) rfl, by decide +kernel⟩

/-- A record with its condition present or not, and with an action held or not. -/
def withRecord (s : State) (k : FaultKind) (present : Bool) (held : Option Action) : State :=
  s.setRecord k ⟨present, false, held, Timer.stopped⟩

theorem test_witness_faultConfiguration :
    let write := fun w => writePayload 10 1 0 [w]
    WritePasses .faultConfiguration (write 0x0021) (withRecord playing .linkLost true none) ∧
    WritePasses .faultConfiguration (write 0x0021) (withRecord playing .linkLost false (some .mute)) ∧
    WritePasses .faultConfiguration (write 0x0022) (withRecord playing .linkLost true (some .none)) ∧
    WritePasses .faultConfiguration (write 0x0003) playing ∧
    WritePasses .faultConfiguration (write 0x0010)
      ((withRecord playing .linkLost true (some .none)).setFaultEntry .linkLost 0x0001) ∧
    WritePasses .faultConfiguration (writePayload 10 1 7 [0x0003]) playing ∧
    (faultModeOfWord 0x0021, faultActionOfWord 0x0021) = (.autoRetry, .release) ∧
    playing.faultMode .linkLost = .latched ∧ wordOf (FaultKind.toFin .linkErrors).val = 7 :=
  ⟨test_helper_passes (by decide +kernel) rfl, test_helper_passes (by decide +kernel) rfl,
    test_helper_passes (by decide +kernel) rfl, test_helper_passes (by decide +kernel) rfl,
    test_helper_passes (by decide +kernel) rfl, test_helper_passes (by decide +kernel) rfl,
    by decide +kernel, by decide +kernel, by decide⟩

theorem test_witness_reads :
    let check := fun (s : State) (payload : List Word) =>
      (match tableOfId (requestHigh payload) with
       | some t => some (s.readCheck t payload)
       | none => none)
    check playing [0x0001, 0] = none ∧ check playing [0x0100, 0] = some .badLength ∧
    check playing [0x0408, 0] = some .badLength ∧ check playing [0x0F01, 8] = some .badIndex ∧
    check (restoringTable standby .presets) [0x0801, 0] = some .busy ∧
    check playing [0x0407, 89] = some .ok ∧ requestHigh [0x0F01, 0] = 15 := by decide +kernel

theorem test_witness_readOnlyEntries :
    standby.seq.schedule[0]? = none ∧
    (playing.setSeq { playing.seq with schedule := [⟨9, 146, 8, .open_⟩] }).seq.schedule[0]?
      = some ⟨9, 146, 8, .open_⟩ ∧ playing.eng.lru.length ≤ 64 ∧ playing.eng.free.length ≤ 64 ∧
    (playing.eng.engines[63]).settle ≤ 256 ∧ ((playing.reg.manualBars .pedal)[8]).level ≤ 8 := by
  decide +kernel

/-! ### Commands -/

theorem test_witness_commandChecks :
    let status := fun (s : State) (payload : List Word) => (actCommand payload s).status
    status playing [] = .badLength ∧ status playing [0x0A00] = .unknownCommand ∧
    status playing [0x0100, 0] = .badLength ∧ status playing [0x0101] = .badValue ∧
    status playing [0x0308] = .badValue ∧
    status (restoringTable standby .presets) [0x0100] = .wrongState ∧
    status playing [0x0500, 0xC000] = .badValue ∧
    status playing [0x0500, 0x0300] = .badValue ∧ status playing [0x0500] = .badLength ∧
    status (restoringTable standby .presets) [0x0600] = .busy ∧
    status playing [0x0701] = .wrongState ∧ status standby [0x070F] = .badValue ∧
    status (restoringTable standby .presets) [0x0701] = .busy := by decide +kernel

theorem test_witness_playAndStandby : standby.req.cursor = none ∧
    standby.req.opState = .standby ∧ playing.req.opState = .playing ∧
    (standby.key.hold, standby.flt.fault) = (standby.holdWanted, standby.faultWanted) := by
  decide +kernel

theorem test_witness_releases : 1 ≤ (7 : BitVec 8).toNat ∧ (7 : BitVec 8).toNat ≤ 7 ∧
    (4 : BitVec 8).getLsbD (Manual.toFin .pedal).val = true ∧
    (4 : BitVec 8).getLsbD (Manual.toFin .upper).val = false := by decide

theorem test_witness_presets : manualOfCode (2 : BitVec 2).toNat = some .pedal ∧
    ((playing.reg.manualBars .pedal)[8]).level = playing.presetLevel .pedal 15 8 ∧
    ((((playing.moveDrawbar .pedal 8 3).reg).manualBars .pedal)[8]).level
      ≠ playing.presetLevel .pedal 15 8 := by decide +kernel

/-- The Engine Cache at reset with its last engine IDLE, dirty on wheel W96. -/
def oneIdle : EngineCache :=
  { EngineCache.reset.setEngine 63 { Engine.reset with state := .idle, wheel := some 95, dirty := true } with
    free := List.finRange 63 |>.map Fin.castSucc, lru := [63] }

theorem test_witness_flush : oneIdle.Listed ∧ (∀ e ∈ oneIdle.lru, (oneIdle.engines[e]).wheel ≠ none) ∧
    (playing.setEng oneIdle).req.inFlight = none :=
  ⟨⟨by decide +kernel, by decide +kernel, by decide +kernel, by decide +kernel⟩, by decide +kernel, rfl⟩

theorem test_witness_restore : tableOfId (14 : BitVec 8).toNat = some .outputSettings ∧
    tableWritable .outputSettings = true ∧ standby.req.inFlight = none ∧ standby.req.cursor = none ∧
    (restoringTable standby .outputSettings).req.cursor = some ⟨.outputSettings, 0, false⟩ ∧
    tableEntries .outputSettings ≤ 8 + 8 := by decide +kernel

/-- A restored Output Settings entry, and the rest of the table after the second step. -/
theorem test_restore_steps :
    (match execAll [.restoreStep] (restoringTable standby .outputSettings) with
     | .next t => (t.entryWords .outputSettings 7, t.entryWords .outputSettings 8, t.req.inFlight)
     | _ => ([], [], none))
      = (factoryEntry .outputSettings 0 7, [0], some .restoreFactory) := by decide +kernel

/-- Tables whose entries act on the state, under restore: Link Settings from its station number on, and the
first eight Rotor Settings with SLOW in force, whose restored slow speed retargets the horn. -/
theorem test_witness_restoreActs :
    let s := restoringTable standby .linkSettings
    s.Ready ∧ s.req.cursor = some ⟨.linkSettings, 0, false⟩ ∧ 0 < tableEntries .linkSettings ∧
    TableId.plain .linkSettings = false ∧ tableOfId 11 = some .linkSettings ∧
    (match execAll [.restoreStep]
        ((restoringTable standby .rotorSettings).setRot { standby.rot with selector := .slow }) with
     | .next t => (t.rot.horn.target, t.rot.horn.state)
     | _ => (0, .stopped)) = (80, .rising) := by decide +kernel

/-! ### Keys, contacts and engines -/

/-- PLAYING with every contact of the profile at closure point 16, so that a key moves at travel 63 with
offsets above 0 and at travel 0 at once, and every contact assigned W1. -/
def playable : State :=
  playing.setTab { playing.tab with
    contactProfile := Vector.replicate 28 16, wheelAssignment := Vector.replicate 1323 1 }

/-- The state after some commands. -/
def after (cs : List Instr) (s : State) : State :=
  match execAll cs s with
  | .next t => t
  | _ => s

/-- A soft reset while Rotor Settings or Link Settings are under restore. -/
theorem test_witness_softReset :
    let reset := after [.softReset broadcast 0 []]
    let t := reset ((restoringTable standby .rotorSettings).setRot { standby.rot with selector := .slow })
    (t.rot.horn.target, t.rot.horn.state) = (80, .rising) ∧
    (reset (restoringTable standby .linkSettings)).flt.silence = Timer.start ∧
    (reset ((restoringTable standby .presets).setFlt { standby.flt with silence := dueAt 9 })).flt.silence
      = dueAt 9 := by decide +kernel

/-- A new entry stands behind those due no later and in front of those due later, across the wrap. -/
theorem test_entries_stand_in_order :
    let entry := fun due : Word => (⟨due, 0, 0, .close⟩ : ScheduleEntry)
    (withEntry 0xFFF0 [entry 0xFFF8, entry 2, entry 9] (entry 2)).map (fun x => x.due)
        = [0xFFF8, 2, 2, 9] ∧
    (withEntry 0xFFF0 [entry 2] (entry 0xFFFF)).map (fun x => x.due) = [0xFFFF, 2] := by decide +kernel

/-- A key pressed and released at travel 0 starts its clicks at once, and the newest 32 are held. -/
theorem test_clicks_at_once :
    let clicks := fun n : Nat => (after [.keyDown 0 36 0, .keyUp 0 36 0] (playable.setBus { playable.bus with
      clicks := List.replicate n ⟨.pedal, 7, true⟩ })).bus.clicks
    clicks 0 = List.replicate 9 ⟨.upper, 0, true⟩ ++ List.replicate 9 ⟨.upper, 0, false⟩ ∧
    (clicks 20).length = 32 ∧ (clicks 20).take 14 = List.replicate 14 ⟨.pedal, 7, true⟩ := by decide +kernel

/-- The end of a tick halves the percussion level where its time has come, as the row HALVING does. -/
theorem test_tick_end_halves :
    let s := playing.setPrc { playing.prc with envelope := .sounding, level := 4095, halving := dueAt 0 }
    (after [.episodeStart] s).prc.level = 2047 ∧ (after [.halving] s).prc.level = 2047 := by decide +kernel

/-- PLAYING with no key mapped and a Stray Keys count. -/
def strays (n : BitVec 8) : State :=
  (playing.setTab { playing.tab with keyMap := Vector.replicate 512 0xC0 }).setCnt
    { playing.cnt with strayKeys := n }

theorem test_witness_refusedKeys : standby.req.opState ≠ .playing ∧
    (playing.setKey { playing.key with hold := true }).key.hold = true ∧
    playing.mappedKey 3 127 = some 0 ∧
    (strays 255).mappedKey 0 0 = none ∧ (strays 255).cnt.strayKeys = 255 ∧ (strays 0).cnt.strayKeys ≠ 255 ∧
    (match exec (.keyDown 0 0 0) (strays 255) with
     | .next t => (t.cnt.strayKeys, t.record .strayOverflow)
     | _ => (1, FaultRecord.clear)) = (0, ⟨false, true, some .none, Timer.stopped⟩) ∧
    (playing.setFaultEntry .strayOverflow 2).faultMode .strayOverflow = .reportOnly ∧
    (playing.setFaultEntry .strayOverflow 3).faultMode .strayOverflow = .disabled := by decide +kernel

theorem test_witness_repeats : playing.Playing ∧ playing.mappedKey 0 36 = some 0 ∧
    playing.key.hold = false ∧ (withKey playing .descending).keyState 0 = .descending ∧
    (withKey playing .ascending).keyState 0 = .ascending ∧ playing.keyState 0 = .up := by decide +kernel

theorem test_witness_keyDown : playable.Playing ∧ playable.mappedKey 0 36 = some 0 ∧
    playable.key.hold = false ∧ playable.keyState 0 = .up ∧
    (withKey playable .ascending).keyState 0 = .ascending ∧ playable.KeysNotReleased ∧
    playable.seq.schedule.length + 10 ≤ 256 ∧ playable.manualUp .upper = true ∧
    (playable.selectNextPlay .upper 3).reg.pendingReg[0] = some 3 ∧
    8 * (63 : BitVec 6).toNat * 16 / 256 = 31 ∧ 8 * (1 : BitVec 6).toNat * 16 / 256 = 0 := by
  decide +kernel

/-- A slow key-down schedules its ten contacts 31 ticks on; a fast one closes nine contacts on W1 at
once. -/
theorem test_keyDown_moves_contacts :
    let slow := after [.keyDown 0 0 63] playable
    let fast := after [.keyDown 0 0 1] playable
    slow.keyState 0 = .descending ∧ slow.seq.schedule = (contactsOf 0).map (⟨31, 0, ·, .close⟩) ∧
    fast.keyState 0 = .down ∧ fast.bus.demand[0] = 9 ∧ (fast.eng.engines[0]).state = .loading ∧
    (after [.keyUp 0 0 0] fast).keyState 0 = .up ∧ (after [.keyUp 0 0 0] fast).bus.demand[0] = 0 := by
  decide +kernel

/-- The schedule full of another key's entries, and percussion on. -/
def crowded : State :=
  (after [.percussionEnable 1] playable).setSeq
    { playable.seq with schedule := List.replicate 256 ⟨100, 1, 0, .close⟩ }

/-- In a full schedule a key event collapses: its contacts move at once, Collapses counts one, SCHEDULE_FULL
is raised; the phrase start and the CP closure start the envelope, and manual fully up arms it again. -/
theorem test_witness_collapse :
    let down := after [.keyDown 0 0 63] crowded
    let up := after [.keyUp 0 0 63] down
    crowded.Playing ∧ crowded.mappedKey 0 36 = some 0 ∧ crowded.keyState 0 = .up ∧
    crowded.prc.envelope = .armed ∧ crowded.collapsed 0 63 .close = contactsOf 0 ∧
    (down.keyState 0, down.contact 0 9, down.cnt.collapses) = (.down, .closed (some 0), 1) ∧
    (down.record .scheduleFull).flag = true ∧
    (down.prc.envelope, down.prc.level, down.prc.halving) = (.sounding, 4095, Timer.start) ∧
    down.bus.countOf (contactRow .upper 9) 0 = 1 ∧ down.collapsed 0 63 .open_ = contactsOf 0 ∧
    (up.keyState 0, up.contact 0 9, up.cnt.collapses, up.prc.envelope) = (.up, .opened, 2, .armed) := by
  decide +kernel

theorem test_witness_keyUp :
    let down := after [.keyDown 0 0 1] playable
    down.Playing ∧ down.mappedKey 0 36 = some 0 ∧ down.keyState 0 = .down ∧
    (after [.keyDown 0 0 63] playable).keyState 0 = .descending ∧
    down.seq.schedule.length + 10 ≤ 256 ∧ down.contact 0 0 = .closed (some 0) ∧
    8 * (63 : BitVec 6).toNat * (255 - 16) / 256 ≠ 0 := by decide +kernel

/-- A state whose schedule has one entry of key 0. -/
def scheduled (due : Word) (c : ContactId) (kind : Transition) : State :=
  (withKey playable .descending).setSeq { playable.seq with schedule := [⟨due, 0, c, kind⟩] }

theorem test_witness_dueEntry : (scheduled 0 0 .close).Running ∧ playable.seq.schedule = [] ∧
    (scheduled 1 0 .close).seq.tickCount = 0 ∧ (scheduled 0 9 .close).KeysNotReleased ∧
    (scheduled 0 0 .close).keyState 0 = .descending ∧
    (after [.scheduleEntryDue] (scheduled 0 0 .close)).contact 0 0 = .closed (some 0) ∧
    (after [.scheduleEntryDue] (scheduled 0 9 .close)).contact 0 9 = .closed none ∧
    (after [.scheduleEntryDue] (scheduled 0 8 .open_)).contact 0 8 = .opened ∧
    ((scheduled 0 0 .open_).setContact 0 0 (.closed (some 95))).contact 0 0 = .closed (some 95) := by
  decide +kernel

/-- An Engine Cache in which W1 or another wheel has engine E63. -/
def cacheOf (w : Wheel) (st : EngineState) (dirty : Bool) (free lru : List EngineId)
    (starved : List Wheel) : EngineCache :=
  { (EngineCache.reset.setEngine 63 { Engine.reset with state := st, wheel := some w, dirty := dirty }).bindWheel
      w (some 63) with free := free, lru := lru, starved := starved }

/-- Hits, Clean Misses, Dirty Misses, Shortages, E63 and the starved wheels after a CLOSE on W1 at demand
0. -/
def riseOf (c : EngineCache) : List Word × EngineState × Option Wheel × List Wheel × Bool :=
  let t := after [.scheduleEntryDue] ((scheduled 0 0 .close).setEng c)
  ([t.cnt.hits, t.cnt.cleanMisses, t.cnt.dirtyMisses, t.cnt.shortages], (t.eng.engines[63]).state,
    (t.eng.engines[63]).wheel, t.eng.starved, (t.record .engineShortage).present)

/-- A CLOSE at demand 0 is a hit, waits, is a clean miss from the Free List or by eviction, a dirty miss, or
a shortage, the first of which is reported. -/
theorem test_witness_demandRises :
    (scheduled 0 0 .close).bus.demand[0] = 0 ∧
    [cacheOf 0 .idle true [] [63] [], cacheOf 0 .loading false [] [] [],
      { EngineCache.reset with free := [63] }, cacheOf 5 .idle false [] [63] [],
      cacheOf 5 .idle true [] [63] [], cacheOf 5 .active true [] [] [],
      cacheOf 5 .active true [] [] [7]].map riseOf
    = [([1, 0, 0, 0], .active, some 0, [], false), ([0, 0, 0, 0], .loading, some 0, [], false),
      ([0, 1, 0, 0], .loading, some 0, [], false), ([0, 1, 0, 0], .loading, some 0, [], false),
      ([0, 0, 1, 0], .writingBack, some 5, [], false), ([0, 0, 0, 1], .active, some 5, [0], true),
      ([0, 0, 0, 1], .active, some 5, [7, 0], false)] := by decide +kernel

/-- The state before an OPEN of a contact on W1 at demand 1. -/
def opening : State :=
  ((scheduled 0 0 .open_).setContact 0 0 (.closed (some 0))).setBus
    (playing.bus.setCount (contactRow .upper 0) 0 1 1)

/-- E63, the LRU List, the Starved Wheel List, the queue and ENGINE_SHORTAGE after it, ENGINE_SHORTAGE having
been present. -/
def fallOf (c : EngineCache) : EngineState × List EngineId × List Wheel × List StoreRequest × Bool :=
  let t := after [.scheduleEntryDue] ((opening.setEng c).withCondition .engineShortage)
  ((t.eng.engines[63]).state, t.eng.lru, t.eng.starved, t.eng.queue, (t.record .engineShortage).present)

/-- An OPEN at demand 1 makes the wheel's engine IDLE, hands it over clean or dirty, leaves it loading, or
takes the wheel off the Starved Wheel List, with which ENGINE_SHORTAGE goes absent. -/
theorem test_witness_demandFalls :
    opening.bus.demand[0] = 1 ∧ opening.bus.countOf (contactRow .upper 0) 0 = 1 ∧
    [cacheOf 0 .active true [] [] [], cacheOf 0 .active false [] [] [7],
      cacheOf 0 .active true [] [] [7, 8], cacheOf 0 .loading false [] [] [7],
      cacheOf 5 .active false [] [] [0]].map fallOf
    = [(.idle, [63], [], [], true), (.loading, [], [], [⟨63, .load, 7⟩], false),
      (.writingBack, [], [8], [⟨63, .writeBack, 0⟩], true), (.loading, [], [7], [], true),
      (.active, [], [], [], false)] := by decide +kernel

/-- Engine E63 with a store request at the head of the queue, and some wheels starved. -/
def storing (kind : RequestKind) (next : Option Wheel) (starved : List Wheel) : State :=
  playing.setEng { EngineCache.reset.setEngine 63 { Engine.reset with
      state := if kind = .load then .loading else .writingBack, wheel := some 95, next := next } with
    queue := [⟨63, kind, 95⟩], starved := starved }

/-- A state in which W96 is demanded. -/
def demanding (s : State) : State := s.setBus (s.bus.setCount 0 95 1 1)

theorem test_witness_storeRequests :
    let state := fun (c : Instr) (s : State) => ((after [c] s).eng.engines[63]).state
    (storing .load none []).eng.queue = [⟨63, .load, 95⟩] ∧ (storing .load none []).eng.storeReady = true ∧
    state .loadComplete (demanding (storing .load none [])) = .active ∧
    state .loadComplete (storing .load none []) = .idle ∧
    state .loadComplete (storing .load none [0]) = .loading ∧
    state .writeBackComplete (demanding (storing .writeBack (some 95) [])) = .loading ∧
    state .writeBackComplete (storing .writeBack (some 95) []) = .free ∧
    state .writeBackComplete (storing .writeBack none [0]) = .loading ∧
    (after [.loadComplete] (storing .load none [])).eng.storeReady = false := by decide +kernel

/-- E63 IDLE and dirty on W96 with a settle count. -/
def settling (n : Nat) (ticked : Bool) : State :=
  playing.setEng (oneIdle.setEngine 63 { oneIdle.engines[63] with settle := n, ticked := ticked })

theorem test_witness_settleAndClicks :
    ((settling 0 true).eng.engines[63]).ticked = true ∧ (playing.eng.engines[0]).state ≠ .idle ∧
    ((after [.settleDone 63] (settling 254 false)).eng.engines[63]).settle = 255 ∧
    ((after [.settleDone 63] (settling 255 false)).eng.engines[63]).dirty = false ∧
    ((after [.settleDone 63] (settling 256 false)).eng.engines[63]).settle = 256 ∧
    playing.bus.clicks = [] ∧
    (after [.clickPulseExpiry] ((playing.setSeq { playing.seq with tickCount := 16 }).setBus
      { playing.bus with clicks := [⟨.upper, 0, true⟩] })).bus.clicks = [] := by decide +kernel

/-- W1 has one ACTIVE engine, no other wheel has one, and an IDLE engine has still to settle. -/
theorem test_witness_sound :
    let s := playing.setEng (cacheOf 0 .active false [] [] [])
    (s.eng.engines[63]).state = .active ∧ (s.eng.engines[63]).wheel = some 0 ∧
    (∀ e : EngineId, (s.eng.engines[e]).state = .active → (s.eng.engines[e]).wheel = some 0 → e = 63) ∧
    (∀ e : EngineId, (s.eng.engines[e]).state = .active → (s.eng.engines[e]).wheel ≠ some 1) ∧
    ((settling 0 false).eng.engines[63]).state = .idle ∧
    ((settling 0 false).eng.engines[63]).settle ≠ 256 := by decide +kernel

/-- A sample one and a half samples back lies half way between its neighbours. -/
theorem test_heard_between_samples : heardBack [0, 1, 3] 24 = 2 := by decide +kernel

/-! ### Controls and registration -/

theorem test_witness_controlErrors :
    controlOk 9 0 = false ∧ controlOk 40 8 = true ∧ controlOk 40 9 = false ∧ controlOk 73 1 = false ∧
    controlOk 72 0 = false ∧ controlOk 72 7 = true ∧ controlOk 56 7 = false ∧
    (after [.expressionMove 128] playing).cnt.controlErrors = 1 ∧
    (after [.expressionMove 127] playing).cnt.controlErrors = 0 ∧
    (after [.rotorSelect 3] playing).cnt.controlErrors = 1 := by decide +kernel

theorem test_witness_controls : (8 : BitVec 8).toNat ≤ 8 ∧ (127 : BitVec 8).toNat ≤ 127 ∧
    (1 : BitVec 8).toNat ≤ 1 ∧ (6 : BitVec 8).toNat = (6 : Fin 7).val ∧
    (∀ n' : Fin 9, n' ≠ 8 → ((playing.reg.manualBars .upper)[n']).target = none) ∧
    ((((playable.selectGlide .upper 0).moveDrawbar .upper 0 1).reg.manualBars .upper)[0]).target = none := by
  decide +kernel

theorem test_witness_percussionEnable : playing.prc.enable = false ∧
    (after [.percussionEnable 1] playing).prc.enable = true ∧
    (after [.percussionEnable 1] playing).prc.envelope = .armed ∧
    (after [.percussionEnable 1] (withKey playing .down)).prc.envelope = .spent := by decide +kernel

/-- PLAYING with a glide interval of 1, a glide timer due at a count, and B9 of UPPER at 0 with a
target. -/
def gliding (n : Nat) (target : Nat) : State :=
  (playing.setTab { playing.tab with playSettings := Vector.replicate 16 1 }).setReg
    { playing.reg with
      drawbars := playing.reg.drawbars.set 0 (Vector.replicate 9 ⟨0, some target⟩)
      glide := playing.reg.glide.set 0 (dueAt n) }

theorem test_witness_glide : (gliding 62 1).reg.glide[0].due = true ∧ playing.reg.glide[0].due = false ∧
    (after [.glideStep .upper] (gliding 62 1)).reg.glide[0] = ⟨true, 63, true⟩ ∧
    (after [.glideStep .upper] (gliding 63 1)).reg.glide[0] = Timer.stopped ∧
    (after [.glideStep .upper] (gliding 63 2)).reg.glide[0] = Timer.start ∧
    (((after [.glideStep .upper] (gliding 63 2)).reg.manualBars .upper)[8]).level = 1 := by
  decide +kernel

theorem test_witness_halving :
    let s := fun n level => (gliding 0 0).setPrc
      { playing.prc with envelope := .sounding, level := level, halving := dueAt n }
    (s 0 32).prc.halving.due = true ∧ playing.prc.halving.due = false ∧
    (wordAt (s 0 32).tab.playSettings 4).toNat = 1 ∧ (after [.halving] (s 0 32)).prc.level = 16 ∧
    (after [.halving] (s 0 31)).prc.envelope = .spent ∧
    ((s 0 31).setTab { playing.tab with playSettings := Vector.replicate 16 2 }).prc.halving.count + 1 < 2 := by
  decide +kernel

/-! ### The rotors -/

/-- Rotor Settings with slow speeds 80, fast speeds 680 and rates 40. -/
def rotorTable : Vector Word 16 := #v[80, 680, 40, 40, 80, 680, 40, 40, 0, 0, 0, 0, 0, 0, 0, 0]

/-- PLAYING with a rotor table, a selector, a brake and a horn. -/
def turning (sel : Selector) (brake : Bool) (r : Rotor) : State :=
  (playing.setTab { playing.tab with rotorSettings := rotorTable }).setRot
    { playing.rot with selector := sel, brake := brake, horn := r }

theorem test_witness_rotorMoves :
    let horn := fun (c : Instr) (s : State) => ((after [c] s).rot.horn.state, (after [c] s).rot.horn.target)
    horn (.rotorSelect 1) (turning .stop false Rotor.reset) = (.rising, 80) ∧
    horn (.rotorSelect 2) (turning .slow false ⟨.slow, 80, 80, 0, 0, false⟩) = (.rising, 680) ∧
    horn (.rotorSelect 0) (turning .slow true ⟨.slow, 80, 80, 0, 0, false⟩) = (.falling, 20) ∧
    horn (.rotorSelect 0) (turning .slow false ⟨.slow, 80, 80, 0, 0, false⟩) = (.falling, 0) ∧
    horn (.rotorBrake 1) (turning .stop false ⟨.falling, 20, 0, 0, 0, false⟩) = (.parking, 20) ∧
    horn (.rotorBrake 1) (turning .stop false Rotor.reset) = (.stopped, 0) ∧
    horn (.rotorBrake 1) (turning .slow false ⟨.slow, 80, 80, 0, 0, false⟩) = (.slow, 80) ∧
    horn (.rotorBrake 0) (turning .stop true ⟨.parking, 20, 20, 0, 0, false⟩) = (.falling, 0) := by
  decide +kernel

theorem test_witness_rotorTicks :
    let horn := fun (s : State) => ((after [.boundaryStep] s).rot.horn.state, (after [.boundaryStep] s).rot.horn.speed)
    horn (turning .slow false ⟨.rising, 39, 80, 0, 0, false⟩) = (.rising, 79) ∧
    horn (turning .slow false ⟨.rising, 40, 80, 0, 0, false⟩) = (.slow, 80) ∧
    horn (turning .stop true ⟨.falling, 60, 20, 2000, 0, false⟩) = (.parking, 20) ∧
    horn (turning .stop true ⟨.parking, 20, 20, 1024, 0, false⟩) = (.stopped, 0) ∧
    horn (turning .stop true ⟨.parking, 20, 20, 1025, 0, false⟩) = (.parking, 20) ∧
    horn (turning .stop false ⟨.falling, 61, 20, 0, 0, false⟩) = (.falling, 21) ∧
    (after [.parkingCheck .horn] (turning .slow false ⟨.slow, 80, 80, 0, 0, true⟩)).rot.horn.ticked = true ∧
    playing.seq.tickCount.toNat % 64 = 0 := by decide +kernel

/-! ### The clock, the cascade and the outputs -/

theorem test_witness_clock :
    (0 : Rat) < 1 / 48000 ∧ ((1 : Rat) / 52000 ≤ 1 / 52000 ∧ (1 : Rat) / 52000 ≤ 1 / 40000) ∧
    (1 : Rat) / 52001 < 1 / 52000 ∧ (1 : Rat) / 40000 < 1 / 39999 ∧ playing.out.source = .internal ∧
    (playing.setOut { playing.out with source := .external, missing := 3 }).out.source = .external ∧
    playing.out.goodRun + 1 < 256 ∧
    256 ≤ (playing.setOut { playing.out with goodRun := 255 }).out.goodRun + 1 ∧
    playing.out.edgeSeen = false ∧ playing.out.quietPeriods < 3 := by decide +kernel

theorem test_witness_cascade :
    let s := fun n => playing.setOut { playing.out with cascadeRun := n }
    playing.out.cascadeJudged = false ∧ playing.out.cascadeValid = false ∧
    (after [.cascadeSample (.good 1)] (s 14)).out.cascadeValid = false ∧
    (after [.cascadeSample (.good 1)] (s 15)).out.cascadeValid = true ∧
    (after [.cascadeSample (.good 1), .cascadeSample .missing] (s 15)).out.cascadeRun = 0 := by
  decide +kernel

/-- PLAYING at full fade with output 1 from ROTOR LEFT, threshold 0, deglitch 1, mode BELOW and gain 128;
the horn faces away from the left microphone, which hears the sample of age 1 in the horn line. -/
def sounding (x : Sample) (o : OutputUnit) : State :=
  ((playing.setTab { playing.tab with
      rotorSettings := #v[0, 0, 0, 0, 0, 0, 0, 0, 0, 0, 0, 256, 16, 0, 0, 0]
      outputSettings := #v[0x8001, 0, 0x8002, 0, 0, 0, 0, 0, 0, 0, 0, 0] }).setRot
    { playing.rot with
      horn := ⟨.stopped, 0, 0, 16384, 0, false⟩, hornLine := playing.rot.hornLine.set 1 x }).setOut
    { o with fade := 63, muteBefore := false }

/-- An episode stands at output 1. -/
def standing : OutputUnit :=
  { playing.out with limiters := playing.out.limiters.set 0 ⟨0, some ⟨.below, 0, false⟩, true⟩ }

/-- Output 1 after its step: the episode, the port sample, Limit Episodes and the OUTPUT_LIMIT flag. -/
def stepOf (s : State) : Option Episode × Rat × Word × Bool :=
  let t := after [.episodeStart] s
  ((t.out.limiters[0]).episode, t.out.ports[0], t.cnt.limitEpisodes[0], (t.record .outputLimit).flag)

/-- The sample that exceeds starts an episode, which scales it by the gain. -/
theorem test_witness_episodeStarts : (sounding 1 playing.out).out.stepTaken = false ∧
    stepOf (sounding 1 playing.out) = (some ⟨.below, 0, false⟩, 1 / 4, 1, true) :=
  ⟨by decide +kernel, by decide +kernel⟩

/-- A standing episode goes on while the samples exceed. -/
theorem test_witness_episodeStands :
    stepOf (sounding 1 standing) = (some ⟨.below, 0, false⟩, 1 / 4, 0, false) := by decide +kernel

/-- In the tick of a soft reset an episode scales nothing. -/
theorem test_witness_unlimited :
    stepOf (sounding 1 { playing.out with unlimited := true })
      = (some ⟨.below, 0, false⟩, 1 / 2, 1, true) := by decide +kernel

/-- A tick without a cascade sample is a bad one. -/
theorem test_missing_cascade_sample :
    let run := fun judged => (after [.episodeStart]
      (playing.setOut { playing.out with cascadeRun := 9, cascadeJudged := judged })).out.cascadeRun
    run false = 0 ∧ run true = 9 := by decide +kernel

/-- A limiter starts at its deglitch and each mode ends its episode as R174 says. -/
theorem test_limiter_steps :
    ((⟨1, none, false⟩ : Limiter).step .below 2 0 false true).2 = true ∧
    ((⟨0, none, false⟩ : Limiter).step .below 2 0 false true).1.run = 1 ∧
    (⟨.below, 0, false⟩ : Episode).step false false = none ∧
    (⟨.afterN, 1, false⟩ : Episode).step true true = none ∧
    (⟨.nextPeriod, 0, true⟩ : Episode).step true false = some ⟨.nextPeriod, 0, false⟩ := by decide

/-! ### The Fault Unit's timers -/

theorem test_witness_faultTimers :
    let retrying := fun n => (gliding 0 0).setRecord .linkLost ⟨false, true, some .mute, dueAt n⟩
    let silent := fun n code => (playing.storeEntry .linkSettings 1 [code]).setFlt
      { playing.flt with silence := dueAt n }
    let waiting := playing.setFlt { playing.flt with waiting := true, noticeTimer := dueAt 16319 }
    ((retrying 254).record .linkLost).retry.due = true ∧
    ((retrying 255).record .linkLost).retry.count + 1 = 256 * (wordAt (retrying 255).tab.playSettings 13).toNat ∧
    (playing.record .linkLost).retry.due = false ∧ playing.flt.silence.due = false ∧
    (silent 511 1).silenceWindow = some 512 ∧ (silent 510 1).flt.silence.count + 1 < 512 ∧
    (silent 0 0).silenceWindow = none ∧ playing.flt.noticeTimer.due = false ∧
    waiting.flt.noticeTimer.due = true ∧ waiting.flt.waiting = true ∧
    waiting.lnk.replies.length + 0 < 4 ∧ ¬ (withReplies waiting 4).lnk.replies.length + 0 < 4 := by
  decide +kernel

/-! ### The laws -/

theorem test_witness_noCount (row : BusRow) (w : Wheel) : playing.bus.countOf row w = 0 := by
  simp [playing, inState, State.reset, State.inReset, State.setReq, BusMatrix.reset, BusMatrix.countOf]

theorem test_witness_opened (k : KeyId) (c : ContactId) : playing.contact k c = .opened := by
  simp [playing, inState, State.reset, State.inReset, State.setReq, KeyUnit.reset, KeyRecord.reset,
    State.contact]

theorem test_witness_up (k : KeyId) : playing.keyState k = .up := by
  simp [playing, inState, State.reset, State.inReset, State.setReq, KeyUnit.reset, KeyRecord.reset,
    State.keyState]

theorem test_witness_counts : playing.CountsMatch where
  counts row w := by
    rw [test_witness_noCount row w, State.keysOn, List.filter_eq_nil_iff.mpr]
    · rfl
    · intro k _
      simp [test_witness_opened]
  schedule := ⟨List.Pairwise.nil, List.nodup_nil, nofun, nofun⟩

theorem test_witness_keys : playing.KeysLawful where
  up k _ c := test_witness_opened k c
  down k h := by simp [test_witness_up] at h
  descending k h := by simp [test_witness_up] at h
  ascending k h := by simp [test_witness_up] at h
  absent k c _ := test_witness_opened k c

/-- The envelope's law, with percussion off, and on while every UPPER key is UP. -/
theorem test_witness_envelope : playing.EnvelopeLawful ∧
    (after [.percussionEnable 1] playing).EnvelopeLawful :=
  ⟨⟨by decide, nofun, nofun, nofun, fun _ => rfl⟩,
    ⟨by decide +kernel, fun _ => by decide +kernel, by decide +kernel, by decide +kernel,
      by decide +kernel⟩⟩

theorem test_witness_demand : playing.DemandIsSum := by
  intro w
  have h : playing.bus.total w = 0 := by
    simp only [BusMatrix.total, test_witness_noCount]
    decide
  rw [h]
  simp [playing, inState, State.reset, State.inReset, State.setReq, BusMatrix.reset]

theorem test_witness_engines (e : EngineId) : playing.eng.engines[e] = Engine.reset := by
  simp [playing, inState, State.reset, State.inReset, State.setReq, EngineCache.reset]

theorem test_witness_unbound (w : Wheel) : (playing.eng.store[w]).bound = none ∧ playing.bus.demand[w] = 0 := by
  simp [playing, inState, State.reset, State.inReset, State.setReq, EngineCache.reset, BusMatrix.reset]

theorem test_witness_engineLists : playing.eng.Listed ∧ playing.StarvedWaits ∧ playing.EnginesBound := by
  refine ⟨⟨by decide +kernel, by decide +kernel, by decide +kernel, by decide +kernel⟩,
    fun h => absurd rfl h, ?_⟩
  constructor
  · intro e
    rw [test_witness_engines]
    exact ⟨fun _ => ⟨rfl, rfl⟩, nofun, nofun, by decide, fun _ => rfl⟩
  · intro w e
    simp only [EngineCache.Serves, test_witness_engines, test_witness_unbound, Engine.reset]
    simp
  · intro e w h
    rw [test_witness_engines] at h
    cases h
  · intro e w h
    rw [test_witness_engines] at h
    cases h
  · intro w
    rw [if_neg (fun h => h.1 (test_witness_unbound w).2)]
    rfl
  · exact nofun

theorem test_witness_bounds : (withReplies playing 4).Bounded :=
  ⟨by decide +kernel, by decide +kernel, by decide +kernel, by decide +kernel, by decide +kernel,
    by decide +kernel, by decide +kernel, by decide +kernel⟩

theorem test_witness_signals :
    let s := (withRecord playing .linkLost true (some .hold)).refresh
    s.Signalled ∧ s.EpisodesAllowed ∧ s.key.hold = true :=
  ⟨⟨by decide +kernel, by decide +kernel, by decide +kernel, by decide +kernel⟩,
    ⟨fun k => by cases k <;> decide +kernel, nofun⟩, by decide +kernel⟩

/-- The horn on its way to its slow speed, with the drum there already. -/
theorem test_witness_rotors :
    let s := turning .slow false ⟨.rising, 39, 80, 0, 0, false⟩
    (s.setRot { s.rot with drum := ⟨.slow, 80, 80, 0, 0, false⟩ }).RotorsLawful where
  rotors i := by cases i <;> exact ⟨by decide, by decide, by decide, by decide, by decide, by decide, by decide⟩
  heads i := by cases i <;> exact ⟨by decide +kernel, by decide +kernel, by decide +kernel⟩
  initializing := nofun

end Sys2Proof.Tests
end

section
/-!
PROOFS. Requests: a request in hand and its reply, and the rows that carry a request
(02_requests_tables_and_commands.md 2.1).
-/

namespace Sys2Proof.Machine.Requests

/-! ### A request in hand and its reply (R28) -/

/-- The state in which a request is carried out: an addressed one holds a place for its reply (R28). -/
abbrev inHand (h : Head) (s : State) : State :=
  s.setLnk { s.lnk with replyHeld := h.sent == .addressed || s.lnk.replyHeld }

/-- The answer to a request that has been carried out: an addressed one gets its reply (R28). -/
abbrev reply (h : Head) (status : Status) (echo : Nat) (data : List Word) (s : State) : State :=
  s.setLnk { s.lnk with
    replies := s.lnk.replies ++ (match h.sent with
      | .addressed => [s.replyWords h.tag status echo data]
      | .broadcast => [])
    replyHeld := h.sent == .broadcast && s.lnk.replyHeld }

theorem inHand_broadcast {h : Head} (b : h.sent = .broadcast) (s : State) : inHand h s = s := by
  simp [inHand, b]
  rfl

theorem inHand_addressed {h : Head} (b : h.sent = .addressed) (s : State) :
    inHand h s = s.holdReplyPlace := by
  simp [inHand, b]
  rfl

/-- A request with room for its reply is carried out with the place in hand, then answered (R28). -/
theorem answer_eq_reply {h : Head} {s : State} (room : s.RoomFor h) (echo : Nat) (act : State → Answer) :
    s.answer h echo act
      = reply h (act (inHand h s)).status echo (act (inHand h s)).data (act (inHand h s)).state := by
  cases b : h.sent with
  | broadcast =>
    rw [State.answer_broadcast b, inHand_broadcast b]
    simp [reply, b]
    rfl
  | addressed =>
    rw [State.answer_room b _ _ (room b), inHand_addressed b]
    simp [reply, b]
    rfl

theorem inHand_frame (h : Head) (s : State) : Frame [.place] s (inHand h s) :=
  Frame.setLnk s _ (.inr rfl) (.inr rfl) (.inl (by decide))

theorem reply_frame (h : Head) (status : Status) (echo : Nat) (data : List Word) (s : State) :
    Frame [.replies, .place] s (reply h status echo data s) :=
  Frame.setLnk s _ (.inr rfl) (.inl (by decide)) (.inl (by decide))

/-- What carrying out a request leaves alone, answering it leaves alone too, but for the Reply Queue. -/
theorem frame_reply {l : List Block} {h : Head} {s t : State} (status : Status) (echo : Nat)
    (data : List Word) (f : Frame l (inHand h s) t) (r : Block.replies ∈ l) (p : Block.place ∈ l) :
    Frame l s (reply h status echo data t) :=
  (((inHand_frame h s).mono (by simpa using p)).trans f).trans
    ((reply_frame h status echo data t).mono (by simp [r, p]))

/-- The Reply Queue after the answer to a request that has queued some notices. -/
theorem replied_reply {h : Head} {s t : State} {notices : List (List Word)} (status : Status) (echo : Nat)
    (data : List Word) (q : t.lnk.replies = s.lnk.replies ++ notices) :
    Replied h status echo data notices s (reply h status echo data t) := by
  unfold Replied reply
  rw [State.setLnk_lnk, q]
  rfl

/-- A request whose action refuses it is answered with the status, and changes nothing. -/
theorem answer_refused {h : Head} {s : State} (room : s.RoomFor h) (echo : Nat) {act : State → Answer}
    {status : Status} (r : act (inHand h s) = refused status (inHand h s)) :
    Replied h status echo [] [] s (s.answer h echo act) ∧
      Frame [.replies, .place] s (s.answer h echo act) := by
  rw [answer_eq_reply room, r]
  exact ⟨replied_reply _ _ _ (by simp), frame_reply _ _ _ (Frame.refl _ _) (by decide) (by decide)⟩

/-! ### Rows that carry a request -/

theorem exec_writeRequest {c : Instr} {h : Head} {payload : List Word} {s : State}
    (e : writeRequest c = some (h, payload)) (run : s.Running) :
    exec c s = .next (s.takeWrite h payload) := by
  cases c <;> cases e <;> exact whenRunning_running run

theorem exec_commandRequest {c : Instr} {h : Head} {payload : List Word} {s : State}
    (e : commandRequest c = some (h, payload)) (run : s.Running) :
    exec c s = .next (s.takeCommand h payload) := by
  cases c <;> cases e <;> exact whenRunning_running run

/-- A WRITE with room for its reply, outside INITIALIZING. -/
theorem takeWrite_ready {h : Head} {s : State} (room : s.RoomFor h)
    (ready : s.req.opState ≠ .initializing) (payload : List Word) :
    s.takeWrite h payload = s.answer h (requestHigh payload) (actWrite payload) := by
  unfold State.takeWrite
  rw [answer_eq_reply room, answer_eq_reply room, whenReady_ready (s := inHand h s) ready]

/-- A COMMAND with room for its reply, outside INITIALIZING, that is no SOFT_RESET or does not pass. -/
theorem takeCommand_ready {h : Head} {s : State} (room : s.RoomFor h)
    (ready : s.req.opState ≠ .initializing) {payload : List Word}
    (n : requestHigh payload ≠ 9 ∨ (actCommand payload s).status ≠ .ok) :
    s.takeCommand h payload = s.answer h (requestHigh payload) (actCommand payload) := by
  have soft : s.softResetTaken h payload = false := by
    unfold State.softResetTaken
    rw [whenReady_ready ready]
    rcases n with n | n <;> simp [n]
  unfold State.takeCommand
  rw [soft, if_neg (by decide), answer_eq_reply room, answer_eq_reply room,
    whenReady_ready (s := inHand h s) ready]

/-! ### The words of a request (R22) -/

theorem requestHigh_requestWord {high low : Nat} (a : high < 256) (b : low < 256) (rest : List Word) :
    requestHigh (requestWord high low :: rest) = high := by
  simp only [requestHigh, requestWord, bitsOf, wordOf, List.headD_cons, BitVec.toNat_ofNat,
    Nat.shiftRight_eq_div_pow]
  omega

theorem requestLow_requestWord (high : Nat) {low : Nat} (b : low < 256) (rest : List Word) :
    requestLow (requestWord high low :: rest) = low := by
  simp only [requestLow, requestWord, bitsOf, wordOf, List.headD_cons, BitVec.toNat_ofNat,
    Nat.shiftRight_eq_div_pow]
  omega

theorem requestHigh_commandPayload {code : Nat} (a : code < 256) (arg : BitVec 8) (rest : List Word) :
    requestHigh (commandPayload code arg rest) = code := requestHigh_requestWord a arg.isLt rest

theorem requestLow_commandPayload (code : Nat) (arg : BitVec 8) (rest : List Word) :
    requestLow (commandPayload code arg rest) = arg.toNat := requestLow_requestWord code arg.isLt rest

/-- A COMMAND of a row carries a payload with an assigned code (R22). -/
theorem commandRequest_code {c : Instr} {h : Head} {payload : List Word}
    (e : commandRequest c = some (h, payload)) :
    payload ≠ [] ∧ 1 ≤ requestHigh payload ∧ requestHigh payload ≤ 9 := by
  cases c <;> cases e <;> refine ⟨List.cons_ne_nil _ _, ?_⟩ <;>
    simp [requestHigh_commandPayload]

/-- A row of an assigned command with the Length its code needs comes to the command's action, answered, but
for SOFT_RESET. -/
theorem exec_command {c : Instr} {h : Head} {code : Nat} {arg : BitVec 8} {rest : List Word} {s : State}
    {act : Nat → List Word → State → Answer}
    (e : commandRequest c = some (h, commandPayload code arg rest)) (a : commandAction code = some act)
    (ready : s.Ready) (room : s.RoomFor h) (n : code < 9) (len : rest.length + 1 = commandLength code) :
    let r := act arg.toNat rest (inHand h s)
    exec c s = .next (reply h r.status code r.data r.state) := by
  have hi : requestHigh (commandPayload code arg rest) = code := requestHigh_commandPayload (by omega) _ _
  have lo : requestLow (commandPayload code arg rest) = arg.toNat := requestLow_commandPayload _ _ _
  have go : actCommand (commandPayload code arg rest) (inHand h s) = act arg.toNat rest (inHand h s) := by
    unfold actCommand
    rw [hi, lo, a, if_neg (by simp [commandPayload])]
    simp [commandPayload, len]
  rw [exec_commandRequest e ready.1, takeCommand_ready room ready.2 (.inl (by omega)),
    answer_eq_reply room, go, hi]

end Sys2Proof.Machine.Requests
end

section
namespace Sys2Proof.Machine.Requests

/-! ### CLEAR_COUNTERS (R37) -/

theorem zero_toList : Counters.zero.toList = List.replicate 20 0 := by decide

theorem counters_zero {s : State} (z : s.cnt = Counters.zero) : ∀ i < 20, s.entryWords .counters i = [0] := by
  intro i b
  rw [State.entryWords, z, zero_toList, List.getD_eq_getElem _ _ (by simpa using b), List.getElem_replicate]

/-- Settles O33. -/
theorem countersAreCleared : Obligations.CountersAreCleared := by
  intro h s ready room
  refine ⟨_, exec_command (code := 8) rfl rfl ready room (by decide) rfl, counters_zero rfl, rfl, ?_, ?_⟩
  · exact replied_reply _ _ _ (by simp [actClearCounters])
  · exact frame_reply _ _ _ (Frame.setCnt (by decide) _ _) (by decide) (by decide)

/-! ### Control moves out of range (R119) -/

theorem controlMove_error {id value : Nat} (bad : controlOk id value = false) (s : State) :
    s.controlMove id value = if s.req.opState = .initializing then s
      else s.setCnt { s.cnt with controlErrors := s.cnt.controlErrors + 1 } := by
  unfold State.controlMove
  rw [bad]
  rfl

theorem controlOk_above {id lo hi value : Nat} (r : controlRange id = some (lo, hi))
    (out : value < lo ∨ hi < value) : controlOk id value = false := by
  simp only [controlOk, r, inRange, decide_eq_false_iff_not]
  omega

theorem controlOk_unknown {id value : Nat} (r : controlRange id = none) : controlOk id value = false := by
  simp only [controlOk, r]

theorem controlRange_none {id : Nat} (a : ¬ (id ≤ 8 ∨ (16 ≤ id ∧ id ≤ 24) ∨ (32 ≤ id ∧ id ≤ 40) ∨
    (48 ≤ id ∧ id ≤ 52) ∨ (56 ≤ id ∧ id ≤ 58) ∨ id = 64 ∨ id = 65 ∨ id = 72)) :
    controlRange id = none := by
  unfold controlRange
  iterate 8 rw [if_neg (by omega)]

theorem controlRange_drawbar (m : Manual) (n : Fin 9) : controlRange (drawbarControl m n) = some (0, 8) := by
  have := n.isLt
  unfold controlRange drawbarControl
  rw [if_pos]
  cases m <;> simp only [Manual.toFin] <;> omega

/-- Settles O42. -/
theorem controlErrorsAreCounted : Obligations.ControlErrorsAreCounted := by
  intro s value run error
  have counted : ∀ {c : Instr} {id : Nat}, exec c s = whenRunning (State.controlMove id value.toNat) s →
      controlOk id value.toNat = false → exec c s = .next error := by
    intro c id e bad
    rw [e, whenRunning_running run, controlMove_error bad]
  refine ⟨fun id bad => counted rfl ?_, fun m n v => counted rfl (controlOk_above (controlRange_drawbar m n) (.inr v)),
    fun v => counted rfl (controlOk_above rfl (.inr v)), fun v => ⟨counted rfl (controlOk_above rfl (.inr v)),
      fun which => counted (id := percussionControl which) rfl ?_, counted (id := 57) rfl (controlOk_above rfl (.inr v)),
      counted (id := 58) rfl (controlOk_above rfl (.inr v)), counted rfl (controlOk_above rfl (.inr v))⟩,
    fun v => counted (id := 56) rfl (controlOk_above rfl (.inr v)),
    fun v => counted rfl (controlOk_above rfl (.inr v)),
    fun v => counted rfl (controlOk_above rfl ?_)⟩
  · rcases bad with unknown | bad
    · exact controlOk_unknown (controlRange_none unknown)
    · exact bad
  · cases which <;> exact controlOk_above rfl (.inr v)
  · omega

/-! ### SELECT_PRESET (R123, R124, R127) -/

theorem presetWord_fields (manual : BitVec 2) (p : BitVec 4) {mode : Nat} (m : mode < 4) :
    bitsOf (presetWord manual p mode 0) 15 14 = manual.toNat ∧ bitsOf (presetWord manual p mode 0) 13 10 = p.toNat ∧
    bitsOf (presetWord manual p mode 0) 9 8 = mode ∧ bitsOf (presetWord manual p mode 0) 7 0 = 0 := by
  have := manual.isLt
  have := p.isLt
  have zero : (0 : BitVec 8).toNat = 0 := rfl
  simp only [presetWord, bitsOf, wordOf, BitVec.toNat_ofNat, zero, Nat.shiftRight_eq_div_pow]
  omega

theorem manualBars_setManual (r : Registration) (m m' : Manual) (bars : Vector Drawbar 9) (t : Timer)
    (p : Option (Fin 16)) :
    (r.setManual m bars t p).manualBars m' = if m' = m then bars else r.manualBars m' := by
  unfold Registration.setManual Registration.manualBars
  cases m <;> cases m' <;> simp [Manual.toFin]

theorem glide_setManual (r : Registration) (m m' : Manual) (bars : Vector Drawbar 9) (t : Timer)
    (p : Option (Fin 16)) :
    (r.setManual m bars t p).glide[m'.toFin] = if m' = m then t else r.glide[m'.toFin] := by
  unfold Registration.setManual
  cases m <;> cases m' <;> simp [Manual.toFin]

theorem pendingReg_setManual (r : Registration) (m m' : Manual) (bars : Vector Drawbar 9) (t : Timer)
    (p : Option (Fin 16)) :
    (r.setManual m bars t p).pendingReg[m'.toFin] = if m' = m then p else r.pendingReg[m'.toFin] := by
  unfold Registration.setManual
  cases m <;> cases m' <;> simp [Manual.toFin]

theorem tabulate_get {α : Type} {n : Nat} (f : Nat → α) (i : Fin n) : (tabulate n f)[i] = f i := by
  simp [tabulate]

/-- What SELECT_PRESET does in its modes NOW, GLIDE and NEXT_PLAY (R36). -/
def selectPreset (mode : Nat) (m : Manual) (p : Fin 16) (s : State) : State :=
  match mode with
  | 0 => s.selectNow m p
  | 1 => s.selectGlide m p
  | _ => s.selectNextPlay m p

/-- A row of SELECT_PRESET with its fields in range does what its mode says. -/
theorem exec_selectPreset {c : Instr} {h : Head} {manual : BitVec 2} {m : Manual} {p : BitVec 4} {mode : Nat}
    {s : State} (e : commandRequest c = some (h, commandPayload 5 0 [presetWord manual p mode 0]))
    (ready : s.Ready) (room : s.RoomFor h) (named : manualOfCode manual.toNat = some m) (lt : mode < 3) :
    exec c s = .next (reply h .ok 5 [] (selectPreset mode m p.toFin (inHand h s))) := by
  obtain ⟨f1, f2, f3, f4⟩ := presetWord_fields manual p (mode := mode) (by omega)
  have preset : Fin.ofNat 16 p.toNat = p.toFin := Fin.ext (Nat.mod_eq_of_lt p.isLt)
  have act : actSelectPreset 0 [presetWord manual p mode 0] (inHand h s)
      = answered (selectPreset mode m p.toFin (inHand h s)) := by
    simp only [actSelectPreset, List.headD_cons, f1, f2, f3, f4, named, preset]
    obtain rfl | rfl | rfl : mode = 0 ∨ mode = 1 ∨ mode = 2 := by omega
    · rfl
    · rfl
    · rfl
  have go := exec_command e rfl ready room (by decide) rfl
  rw [go, show (0 : BitVec 8).toNat = 0 from rfl, act]
  rfl

/-- What each mode of SELECT_PRESET leaves alone. -/
theorem selectPreset_others {m m' : Manual} (s : State) (bars : Vector Drawbar 9) (t : Timer)
    (p : Option (Fin 16)) (n : m' ≠ m) :
    let r := (s.reg.setManual m bars t p)
    r.manualBars m' = s.reg.manualBars m' ∧ r.glide[m'.toFin] = s.reg.glide[m'.toFin] ∧
      r.pendingReg[m'.toFin] = s.reg.pendingReg[m'.toFin] := by
  refine ⟨?_, ?_, ?_⟩
  · rw [manualBars_setManual, if_neg n]
  · rw [glide_setManual, if_neg n]
  · rw [pendingReg_setManual, if_neg n]

theorem anyTarget_aim {bars : Vector Drawbar 9} {level : Nat → Nat} :
    anyTarget (bars.mapIdx (fun n b => b.aim (level n))) = true ↔ ∃ n : Fin 9, (bars[n]).level ≠ level n := by
  unfold anyTarget
  rw [Vector.any_eq_true]
  constructor
  · rintro ⟨i, hi, t⟩
    refine ⟨⟨i, hi⟩, fun e => ?_⟩
    have e' : (bars[i]).level = level i := e
    simp [Drawbar.aim, e'] at t
  · rintro ⟨⟨i, hi⟩, ne⟩
    have ne' : (bars[i]).level ≠ level i := ne
    exact ⟨i, hi, by simp [Drawbar.aim, ne']⟩

/-- Settles O30. -/
theorem presetsAreSelected : Obligations.PresetsAreSelected := by
  intro h manual m p s ready room named level others
  have rest : ∀ bars t q, others (reply h .ok 5 [] ((inHand h s).setReg (s.reg.setManual m bars t q))) :=
    fun bars t q => ⟨fun m' n => selectPreset_others s bars t q n, rfl, replied_reply _ _ _ (by simp),
      frame_reply _ _ _ (Frame.setReg (by decide) _ _) (by decide) (by decide)⟩
  refine ⟨⟨_, exec_selectPreset (mode := 0) rfl ready room named (by decide), rest _ _ _, fun n => ?_, ?_, ?_⟩,
    ⟨_, exec_selectPreset (mode := 1) rfl ready room named (by decide), rest _ _ _, fun n => ?_, fun ne => ?_,
      fun eq => ?_, ?_⟩,
    ⟨_, exec_selectPreset (mode := 2) rfl ready room named (by decide), rest _ _ _, fun n => ?_, ?_, ?_⟩⟩
  all_goals simp only [selectPreset, State.selectNow, State.selectGlide, State.selectNextPlay, State.setLnk_reg,
    State.setReg_reg, manualBars_setManual, glide_setManual, pendingReg_setManual, if_true]
  · exact tabulate_get _ n
  · simp [Drawbar.aim]
    rfl
  · exact if_pos (anyTarget_aim.mpr ne)
  · refine if_neg fun t => ?_
    obtain ⟨n, ne⟩ := anyTarget_aim.mp t
    exact ne (eq n)
  · simp

end Sys2Proof.Machine.Requests
end

section
namespace Sys2Proof.Machine.Requests

/-! ### The checks of a COMMAND (R34 to R40) -/

/-- A COMMAND that its action refuses, whatever else the state holds, is answered with the status and changes
nothing. -/
theorem takeCommand_refused {h : Head} {payload : List Word} {status : Status} {s : State} (ready : s.Ready)
    (room : s.RoomFor h) (bad : status ≠ .ok)
    (r : ∀ t : State, t.req = s.req → actCommand payload t = refused status t) :
    Replied h status (requestHigh payload) [] [] s (s.takeCommand h payload) ∧
      Frame [.replies, .place] s (s.takeCommand h payload) := by
  rw [takeCommand_ready room ready.2 (.inr (by rw [r s rfl]; exact bad))]
  exact answer_refused room _ (r _ rfl)

theorem actCommand_empty (s : State) : actCommand [] s = refused .badLength s := rfl

theorem actCommand_unknown {payload : List Word} (n : payload ≠ [])
    (a : commandAction (requestHigh payload) = none) (s : State) :
    actCommand payload s = refused .unknownCommand s := by
  unfold actCommand
  rw [if_neg (by simpa using n), a]

theorem actCommand_badLength {payload : List Word} {act : Nat → List Word → State → Answer}
    (a : commandAction (requestHigh payload) = some act)
    (len : payload.length ≠ commandLength (requestHigh payload)) (s : State) :
    actCommand payload s = refused .badLength s := by
  simp only [actCommand, a, if_pos len, ite_self]

theorem actCommand_action {payload : List Word} {act : Nat → List Word → State → Answer}
    (n : payload ≠ []) (a : commandAction (requestHigh payload) = some act)
    (len : payload.length = commandLength (requestHigh payload)) (s : State) :
    actCommand payload s = act (requestLow payload) payload.tail s := by
  unfold actCommand
  rw [if_neg (by simpa using n), a]
  exact if_neg (by simpa using len)

theorem commandAction_none {code : Nat} : commandAction code = none ↔ code = 0 ∨ 9 < code := by
  unfold commandAction
  split <;> simp_all
  omega

theorem commandAction_some {code : Nat} (a : 1 ≤ code) (b : code ≤ 9) : ∃ act, commandAction code = some act :=
  Option.ne_none_iff_exists'.mp fun n => by have := commandAction_none.mp n; omega

/-- An argument that is not 0 is refused by every command but ALL_KEYS_UP and RESTORE_FACTORY (R34). -/
theorem commandAction_arg {code arg : Nat} {act : Nat → List Word → State → Answer}
    (a : commandAction code = some act) (n3 : code ≠ 3) (n7 : code ≠ 7) (n : arg ≠ 0) (rest : List Word)
    (s : State) : act arg rest s = refused .badValue s := by
  unfold commandAction at a
  split at a <;> cases a <;> first | exact if_pos n | exact if_pos (.inl n) | contradiction

theorem actAllKeysUp_refused {arg : Nat} (n : ¬ (1 ≤ arg ∧ arg ≤ 7)) (rest : List Word) (s : State) :
    actAllKeysUp arg rest s = refused .badValue s :=
  if_neg (by simpa [inRange] using n)

theorem actPlay_restoring {s : State} (o : s.req.opState = .standby) (c : s.req.cursor ≠ none)
    (rest : List Word) : actPlay 0 rest s = refused .wrongState s := by
  simp [actPlay, o, Option.isSome_iff_ne_none, c]

theorem actSelectPreset_refused {arg : Nat} {rest : List Word} (s : State)
    (bad : arg ≠ 0 ∨ bitsOf (rest.headD 0) 15 14 = 3 ∨ bitsOf (rest.headD 0) 9 8 = 3 ∨
      bitsOf (rest.headD 0) 7 0 ≠ 0) : actSelectPreset arg rest s = refused .badValue s := by
  unfold actSelectPreset
  dsimp only
  split
  · rfl
  · next passes =>
    have named : bitsOf (rest.headD 0) 15 14 = 3 ∨ bitsOf (rest.headD 0) 9 8 = 3 := by
      tauto
    rcases named with e | e
    · rw [e]
      rfl
    · rw [e]
      split <;> simp_all

theorem actFlush_busy {s : State} (f : s.req.inFlight ≠ none) (rest : List Word) :
    actFlush 0 rest s = refused .busy s := by
  simp [actFlush, Option.isSome_iff_ne_none, f]

theorem tableOfId_writable {id : Nat} :
    (∃ t, tableOfId id = some t ∧ tableWritable t = true) ↔ 1 ≤ id ∧ id ≤ 14 := by
  unfold tableOfId
  split <;> simp_all [tableWritable]
  omega

theorem actRestore_playing {s : State} (o : s.req.opState = .playing) (arg : Nat) (rest : List Word) :
    actRestore arg rest s = refused .wrongState s := if_pos o

theorem actRestore_badValue {s : State} (o : s.req.opState = .standby) {arg : Nat}
    (n : ¬ (1 ≤ arg ∧ arg ≤ 14)) (rest : List Word) : actRestore arg rest s = refused .badValue s := by
  unfold actRestore
  rw [o, if_neg (by decide)]
  split
  · rfl
  · next t e =>
    exact if_pos (Bool.eq_false_iff.mpr fun w => n (tableOfId_writable.mp ⟨t, e, w⟩))

theorem actRestore_busy {s : State} (o : s.req.opState = .standby) {arg : Nat} (a : 1 ≤ arg ∧ arg ≤ 14)
    (f : s.req.inFlight ≠ none) (rest : List Word) : actRestore arg rest s = refused .busy s := by
  obtain ⟨t, e, w⟩ := tableOfId_writable.mpr a
  simp [actRestore, o, e, w, Option.isSome_iff_ne_none, f]

/-- Settles O26. -/
theorem commandsAreChecked : Obligations.CommandsAreChecked := by
  refine ⟨fun c h payload s ready room e => ?_, fun h payload s ready room => ?_⟩
  · intro refused code arg wanted
    obtain ⟨nonempty, low, high⟩ := commandRequest_code e
    obtain ⟨act, a⟩ := commandAction_some low high
    have no : ∀ {status : Status}, status ≠ .ok →
        (∀ t : State, t.req = s.req → actCommand payload t = Machine.refused status t) → refused status :=
      fun bad r => ⟨_, exec_commandRequest e ready.1, takeCommand_refused ready room bad r⟩
    refine ⟨fun len => no (by decide) fun t _ => actCommand_badLength a len t, fun len => ?_⟩
    have go : ∀ {k : Nat} {f : Nat → List Word → State → Answer}, code = k → commandAction k = some f →
        ∀ t, actCommand payload t = f arg payload.tail t := by
      rintro k f rfl af t
      exact actCommand_action nonempty af len t
    have second : payload.getD 1 0 = payload.tail.headD 0 := by
      cases payload with
      | nil => rfl
      | cons w rest => cases rest <;> rfl
    refine ⟨fun n3 n7 n => no (by decide) fun t _ => ?_, fun k n => no (by decide) fun t _ => ?_,
      fun k z o cursor => no (by decide) fun t eq => ?_, fun k bad => no (by decide) fun t _ => ?_,
      fun k z busy => no (by decide) fun t eq => ?_, fun k o => no (by decide) fun t eq => ?_,
      fun k o n => no (by decide) fun t eq => ?_, fun k o a b busy => no (by decide) fun t eq => ?_⟩
    · rw [go rfl a, commandAction_arg a n3 n7 n]
    · rw [go k rfl, actAllKeysUp_refused n]
    · rw [go k rfl, z, actPlay_restoring (eq ▸ o) (eq ▸ cursor)]
    · rw [go k rfl, actSelectPreset_refused t (by rw [← second]; tauto)]
    · rw [go k rfl, z, actFlush_busy (eq ▸ busy)]
    · rw [go k rfl, actRestore_playing (eq ▸ o)]
    · rw [go k rfl, actRestore_badValue (eq ▸ o) n]
    · rw [go k rfl, actRestore_busy (eq ▸ o) ⟨a, b⟩ (eq ▸ busy)]
  · intro code refused
    refine ⟨?_, fun n k => ?_, fun k len => ?_, fun k len mode => ?_⟩
    · rintro rfl
      exact takeCommand_refused ready room (by decide) fun t _ => actCommand_empty t
    · exact takeCommand_refused ready room (by decide)
        fun t _ => actCommand_unknown n (commandAction_none.mpr k) t
    · refine takeCommand_refused ready room (by decide) fun t _ => ?_
      exact actCommand_badLength (act := actSelectPreset) (by rw [show requestHigh payload = 5 from k]; rfl)
        (by rw [show requestHigh payload = 5 from k]; exact len) t
    · refine takeCommand_refused ready room (by decide) fun t _ => ?_
      obtain ⟨w1, w2, rfl⟩ := List.length_eq_two.mp len
      rw [actCommand_action (act := actSelectPreset) (by simp) (by rw [show requestHigh _ = 5 from k]; rfl)
        (by rw [show requestHigh _ = 5 from k]; rfl)]
      exact actSelectPreset_refused t (.inr (.inr (.inl mode)))

/-! ### The checks of a READ and its answer (R33) -/

theorem entryWords_inHand (h : Head) (s : State) (t : TableId) (i : Nat) :
    (inHand h s).entryWords t i = s.entryWords t i := by
  cases t <;> rfl

theorem restoring_iff {s : State} {t : TableId} :
    s.restoring t = true ↔ ∃ r, s.req.cursor = some r ∧ r.table = t := by
  unfold State.restoring
  cases s.req.cursor <;> simp

/-- A READ with two payload words, of a table: its checks and its answer (R33). -/
theorem actRead_table {payload : List Word} {table : TableId} (len : payload.length = 2)
    (id : tableOfId (requestHigh payload) = some table) (s : State) :
    let count := requestLow payload
    let start := (payload.getD 1 0).toNat
    actRead payload s =
      if count = 0 ∨ 14 < count * tableWidth table then refused .badLength s
      else if tableEntries table < start + count then refused .badIndex s
      else if s.restoring table then refused .busy s
      else ⟨.ok, s.readEntries table start count, s⟩ := by
  unfold actRead State.readCheck
  rw [if_neg (by simp [len]), id]
  dsimp only
  split_ifs <;> rfl

/-- An addressed READ with room for its reply, in INITIALIZING of Status only. -/
theorem exec_read {h : Head} {payload : List Word} {s : State} (run : s.Running) (a : h.sent = .addressed)
    (room : s.RoomFor h)
    (ready : s.req.opState ≠ .initializing ∨ (payload ≠ [] ∧ requestHigh payload = 15)) :
    let r := actRead payload (inHand h s)
    exec (.read h payload) s = .next (reply h r.status (requestHigh payload) r.data r.state) := by
  have any : actReadAnyState payload (inHand h s) = actRead payload (inHand h s) := by
    refine if_neg fun ⟨o, n⟩ => ?_
    rcases ready with ready | ⟨nonempty, status⟩
    · exact ready o
    · exact n ⟨List.length_pos_of_ne_nil nonempty, status⟩
  show whenRunning _ s = _
  rw [whenRunning_running run, State.takeRead, a]
  simp only
  rw [answer_eq_reply room, any]

/-- Settles O24. -/
theorem readsAreAnswered : Obligations.ReadsAreAnswered := by
  intro h payload s run
  refine ⟨fun b => ?_, fun a room ready => ?_⟩
  · show whenRunning _ s = _
    rw [whenRunning_running run, State.takeRead, b]
  · intro refused count start
    have no : ∀ {status : Status}, actRead payload (inHand h s) = Machine.refused status (inHand h s) →
        refused status := by
      intro status r
      refine ⟨_, exec_read run a room ready, ?_⟩
      rw [r]
      exact ⟨replied_reply _ _ _ (by simp), frame_reply _ _ _ (Frame.refl _ _) (by decide) (by decide)⟩
    refine ⟨fun len => no (if_pos len), fun len id => no ?_, fun table len id => ?_⟩
    · rw [actRead, if_neg (by simp [len]), id]
    have act := actRead_table len id (inHand h s)
    refine ⟨fun bad => no (by rw [act]; exact if_pos bad), fun nonzero fits => ⟨fun bad => no ?_, fun inside =>
      ⟨fun r cursor same => no ?_, fun free => ?_⟩⟩⟩
    · rw [act, if_neg (not_or.mpr ⟨nonzero, Nat.not_lt.mpr fits⟩)]
      exact if_pos bad
    · rw [act, if_neg (not_or.mpr ⟨nonzero, Nat.not_lt.mpr fits⟩), if_neg (Nat.not_lt.mpr inside)]
      exact if_pos (restoring_iff.mpr ⟨r, cursor, same⟩)
    · have idle : ¬ (inHand h s).restoring table = true := fun t => by
        obtain ⟨r, cursor, same⟩ := restoring_iff.mp t
        exact free r cursor same
      have ok := exec_read run a room ready
      rw [act, if_neg (not_or.mpr ⟨nonzero, Nat.not_lt.mpr fits⟩), if_neg (Nat.not_lt.mpr inside), if_neg idle] at ok
      refine ⟨_, ok, frame_reply _ _ _ (Frame.refl _ _) (by decide) (by decide), ?_⟩
      simp only [State.readEntries, entryWords_inHand]
      exact replied_reply _ _ _ (by simp)

end Sys2Proof.Machine.Requests
end

section
namespace Sys2Proof.Machine.Requests

/-! ### The ranges of the entries of each table (R23, R31) -/

theorem bitsOf_eq (w : Word) (hi lo : Nat) : bitsOf w hi lo = w.toNat / 2 ^ lo % 2 ^ (hi + 1 - lo) := by
  rw [bitsOf, Nat.shiftRight_eq_div_pow]

theorem inRange_iff {n lo hi : Nat} : inRange n lo hi = true ↔ lo ≤ n ∧ n ≤ hi := decide_eq_true_iff

theorem keyMapEntryOk_iff (w : Word) : keyMapEntryOk w = true ↔ w.toNat < 256 ∧
    ((bitsOf w 7 6 ≤ 1 ∧ bitsOf w 5 0 ≤ 60) ∨ (bitsOf w 7 6 = 2 ∧ bitsOf w 5 0 ≤ 24) ∨
      (bitsOf w 7 6 = 3 ∧ bitsOf w 5 0 = 0)) := by
  have high : bitsOf w 15 8 = 0 ↔ w.toNat < 256 := by
    have := w.isLt
    rw [bitsOf_eq]
    omega
  have manual : bitsOf w 7 6 < 4 := by
    rw [bitsOf_eq]
    omega
  unfold keyMapEntryOk
  rw [Bool.and_eq_true, beq_iff_eq, high]
  refine and_congr_right fun _ => ?_
  split
  · next e => simp [inRange_iff, e]
  · next e => simp [inRange_iff, e]
  · next e => simp [inRange_iff, e]
  · next n0 n1 n2 =>
    have e : bitsOf w 7 6 = 3 := by
      have : bitsOf w 7 6 ≠ 0 := n0
      have : bitsOf w 7 6 ≠ 1 := n1
      have : bitsOf w 7 6 ≠ 2 := n2
      omega
    simp [e]

theorem faultSettingOk_iff (i : Nat) (w : Word) : faultSettingOk i w = true ↔
    w.toNat < 64 ∧ bitsOf w 3 2 = 0 ∧ (4 ≤ i → (bitsOf w 1 0 = 2 ∨ bitsOf w 1 0 = 3) ∧ bitsOf w 5 4 = 0) := by
  have high : bitsOf w 15 6 = 0 ↔ w.toNat < 64 := by
    have := w.isLt
    rw [bitsOf_eq]
    omega
  simp only [faultSettingOk, Bool.and_eq_true, Bool.or_eq_true, beq_iff_eq, inRange_iff, decide_eq_true_iff,
    high]
  omega

theorem linkSettingOk_iff {i : Nat} (lt : i < 4) (w : Word) : linkSettingOk i w = true ↔
    (i = 0 → w.toNat ≤ 30) ∧ (i = 1 → w.toNat ≤ 7) ∧ (i = 2 → bitsOf w 14 3 = 0 ∧ 1 ≤ bitsOf w 2 0) ∧
      (i = 3 → w.toNat ≤ 255) := by
  have count : bitsOf w 2 0 ≤ 7 := by
    rw [bitsOf_eq]
    omega
  obtain rfl | rfl | rfl | rfl : i = 0 ∨ i = 1 ∨ i = 2 ∨ i = 3 := by omega
  · simp [linkSettingOk, inRange_iff]
  · simp [linkSettingOk, inRange_iff]
  · simp [linkSettingOk, inRange_iff, count]
  · simp [linkSettingOk, inRange_iff]

theorem playSettingOk_iff {i n : Nat} (lt : i < 16) (word : n < 65536) : playSettingOk i n = true ↔
    (i ≤ 3 → n ≤ 15) ∧ (i = 4 ∨ i = 5 → 1 ≤ n) ∧ (i = 6 → n ≤ 256) ∧ (i = 8 ∨ i = 9 ∨ i = 10 → n ≤ 1008) ∧
      (i = 11 ∨ i = 13 → 1 ≤ n ∧ n ≤ 255) ∧ (i = 12 → n ≤ 1) ∧ (14 ≤ i → n = 0) := by
  unfold playSettingOk
  split_ifs <;> simp only [inRange_iff, decide_eq_true_iff, true_iff] <;> omega

theorem rotorSettingOk_iff {i n : Nat} (lt : i < 16) : rotorSettingOk i n = true ↔
    (i = 0 ∨ i = 1 ∨ i = 4 ∨ i = 5 → n ≤ 1500) ∧ (i = 2 ∨ i = 3 ∨ i = 6 ∨ i = 7 → 1 ≤ n ∧ n ≤ 1500) ∧
      (11 ≤ i ∧ i ≤ 14 → n ≤ 256) ∧ (i = 15 → n ≤ 1) := by
  unfold rotorSettingOk
  split_ifs <;> simp only [inRange_iff, true_iff] <;> omega

theorem outputSettingOk_iff (i : Nat) (w : Word) : outputSettingOk i w = true ↔
    (i % 3 = 0 → bitsOf w 7 3 = 0) ∧ (i % 3 = 1 → w.toNat < 1024) ∧ (i % 3 = 2 → bitsOf w 2 0 ≤ 4) := by
  have high : bitsOf w 15 10 = 0 ↔ w.toNat < 1024 := by
    have := w.isLt
    rw [bitsOf_eq]
    omega
  unfold outputSettingOk
  split
  · next e => simp [e]
  · next e => simp [e, high]
  · next n0 n1 =>
    have e : i % 3 = 2 := by
      have : i % 3 ≠ 0 := n0
      have : i % 3 ≠ 1 := n1
      omega
    simp [e, inRange_iff]

theorem wheelVoicingOk_iff (w : Word) : (bitsOf w 15 12 == 0) = true ↔ w.toNat < 4096 := by
  have := w.isLt
  rw [beq_iff_eq, bitsOf_eq]
  omega

/-! ### The checks of a WRITE (R31) -/

/-- The ids of the tables are their places in the list of the tables, from 1 (R22). -/
theorem tableOfId_eq_some {id : Nat} {t : TableId} (e : tableOfId id = some t) : id = t.ctorIdx + 1 := by
  unfold tableOfId at e
  split at e <;> cases e <;> rfl

/-- The entries that a WRITE of a table carries, each with its index (R22). -/
abbrev writtenEntries (table : TableId) (payload : List Word) : List (Nat × List Word) :=
  dataEntries (tableWidth table) (payload.getD 1 0).toNat (requestLow payload) (payload.drop 2)

theorem writtenEntries_all {table : TableId} {payload : List Word} {p : Nat × List Word → Bool} :
    (writtenEntries table payload).all p = true ↔
      ∀ j < requestLow payload, p ((payload.getD 1 0).toNat + j, dataWords table payload j) = true := by
  simp [dataEntries, dataWords]

/-- A WRITE of two words at least, of a table: its checks in order and its effect (R31, R32). -/
theorem actWrite_table {payload : List Word} {table : TableId} (len : 2 ≤ payload.length)
    (id : tableOfId (requestHigh payload) = some table) (s : State) :
    actWrite payload s =
      if requestLow payload = 0 ∨ payload.length ≠ 2 + requestLow payload * tableWidth table then
        refused .badLength s
      else if tableWritable table = false then refused .readOnly s
      else if table = .wheelPitch ∧ s.req.opState = .playing then refused .wrongState s
      else if tableEntries table < (payload.getD 1 0).toNat + requestLow payload then refused .badIndex s
      else if (writtenEntries table payload).all (fun e => entryOk table e.1 e.2) = false then
        refused .badValue s
      else if table = .keyMap ∧ (writtenEntries table payload).any (fun e => s.entryInUse e.1) then
        refused .inUse s
      else if s.restoring table then refused .busy s
      else answered (s.writeEntries table (writtenEntries table payload)) := by
  unfold actWrite State.writeCheck
  rw [if_neg (Nat.not_lt.mpr len), id]
  dsimp only
  split_ifs <;> rfl

theorem entryInUse_iff {s : State} {i : Nat} : s.entryInUse i = true ↔
    ∃ k, keyOfWord (wordAt s.tab.keyMap i) = some k ∧ s.keyState k ≠ .up := by
  unfold State.entryInUse
  cases keyOfWord (wordAt s.tab.keyMap i) <;> simp

/-- Check 8 of R31: some entry of the Key Map that the WRITE names maps to a key that is not UP. -/
theorem writtenEntries_inUse {s : State} {table : TableId} {payload : List Word} :
    (writtenEntries table payload).any (fun e => s.entryInUse e.1) = true ↔
      ∃ j < requestLow payload, ∃ k,
        keyOfWord (wordAt s.tab.keyMap ((payload.getD 1 0).toNat + j)) = some k ∧ s.keyState k ≠ .up := by
  simp [dataEntries, entryInUse_iff]

/-- Settles O18. -/
theorem writesAreChecked : Obligations.WritesAreChecked := by
  refine ⟨fun i w v => ?_, fun c h payload s ready room e => ?_⟩
  · have word := w.isLt
    have word' := v.isLt
    refine ⟨keyMapEntryOk_iff w, ?_, ?_, ?_, wheelVoicingOk_iff w, ?_, ?_, ?_, ?_, faultSettingOk_iff i w,
      fun lt => linkSettingOk_iff lt w, fun lt => playSettingOk_iff lt word, fun lt => rotorSettingOk_iff lt,
      fun _ => outputSettingOk_iff i w⟩
    all_goals simp only [entryOk, List.headD_cons, inRange_iff]
    all_goals omega
  · intro refused count start
    have no : ∀ {status : Status}, actWrite payload (inHand h s) = Machine.refused status (inHand h s) →
        refused status := by
      intro status r
      refine ⟨_, exec_writeRequest e ready.1, ?_⟩
      rw [takeWrite_ready room ready.2]
      exact answer_refused room _ r
    refine ⟨fun short => no (if_pos short), fun len id => no ?_, fun table len id => ?_⟩
    · rw [actWrite, if_neg (Nat.not_lt.mpr len), id]
    have act := actWrite_table len id (inHand h s)
    refine ⟨fun bad => no (by rw [act]; exact if_pos bad), fun nonzero fits => ?_⟩
    rw [if_neg (fun b => b.elim nonzero (absurd fits))] at act
    refine ⟨fun bad => no (by rw [act]; exact if_pos bad), fun writable => ?_⟩
    rw [if_neg (by simp [writable])] at act
    refine ⟨fun pitch playing => no (by rw [act]; exact if_pos ⟨pitch, playing⟩), fun stopped => ?_⟩
    rw [if_neg (fun p => stopped p.1 p.2)] at act
    refine ⟨fun bad => no (by rw [act]; exact if_pos bad), fun inside => ?_⟩
    rw [if_neg (Nat.not_lt.mpr inside)] at act
    refine ⟨fun ⟨j, lt, bad⟩ => no ?_, fun values => ?_⟩
    · rw [act]
      refine if_pos (Bool.eq_false_iff.mpr fun all => ?_)
      rw [writtenEntries_all.mp all j lt] at bad
      cases bad
    rw [if_neg (Bool.not_eq_false _ ▸ writtenEntries_all.mpr values)] at act
    refine ⟨fun map j lt k key up => no ?_, fun unused r cursor same => no ?_⟩
    · rw [act]
      exact if_pos ⟨map, writtenEntries_inUse.mpr ⟨j, lt, k, key, up⟩⟩
    · rw [act, if_neg]
      · exact if_pos (restoring_iff.mpr ⟨r, cursor, same⟩)
      · rintro ⟨map, used⟩
        obtain ⟨j, lt, k, key, up⟩ := writtenEntries_inUse.mp used
        exact up (unused map j lt k key)

/-- A WRITE that passes its checks is answered OK in the state in which its entries have been written
(R31, R32). -/
theorem exec_writePasses {c : Instr} {h : Head} {payload : List Word} {table : TableId} {s : State}
    (e : writeRequest c = some (h, payload)) (ready : s.Ready) (room : s.RoomFor h)
    (passes : WritePasses table payload s) :
    exec c s = .next (reply h .ok (requestHigh payload) []
      ((inHand h s).writeEntries table (writtenEntries table payload))) := by
  have act := actWrite_table (by rw [passes.length]; omega) passes.id (inHand h s)
  rw [if_neg (fun b => b.elim passes.count (absurd passes.length)), if_neg (by simp [passes.writable]),
    if_neg (fun p => passes.stopped p.1 p.2), if_neg (Nat.not_lt.mpr passes.bound),
    if_neg (Bool.not_eq_false _ ▸ writtenEntries_all.mpr passes.values), if_neg, if_neg] at act
  · rw [exec_writeRequest e ready.1, takeWrite_ready room ready.2, answer_eq_reply room, act]
    rfl
  · intro busy
    obtain ⟨r, cursor, same⟩ := restoring_iff.mp busy
    exact passes.free r cursor same
  · rintro ⟨map, used⟩
    obtain ⟨j, lt, k, key, up⟩ := writtenEntries_inUse.mp used
    exact up (passes.unused map j lt k key)

end Sys2Proof.Machine.Requests
end

section
/-!
PROOFS. Written tables: what stores the entries of a WRITE, and the tables whose entries act on the rotors and
the outputs (02_requests_tables_and_commands.md 2.4, R155, R176).
-/

namespace Sys2Proof.Machine.Requests

/-! ### Entries in index order -/

/-- Some entries of a table from an index on, with their words. -/
abbrev entriesFrom (start count : Nat) (words : Nat → List Word) : List (Nat × List Word) :=
  (List.range count).map (fun j => (start + j, words j))

/-- A fold over entries in index order keeps what each entry keeps. -/
theorem foldl_entriesFrom {f : State → Nat × List Word → State} {start : Nat} {words : Nat → List Word}
    {s : State} (P : Nat → State → Prop) (zero : P 0 s) :
    ∀ count, (∀ n u, n < count → P n u → P (n + 1) (f u (start + n, words n))) →
      P count ((entriesFrom start count words).foldl f s)
  | 0, _ => zero
  | count + 1, step => by
    rw [entriesFrom, List.range_succ, List.map_append, List.foldl_append]
    exact step count _ (Nat.lt_succ_self _)
      (foldl_entriesFrom P zero count fun n u lt => step n u (Nat.lt_succ_of_lt lt))

/-! ### One stored entry -/

theorem wordAt_set_same {n i : Nat} (v : Vector Word n) (w : Word) (lt : i < n) :
    wordAt (v.setIfInBounds i w) i = w := by
  simp [wordAt, lt]

theorem wordAt_set_other {n i j : Nat} (v : Vector Word n) (w : Word) (ne : j ≠ i) :
    wordAt (v.setIfInBounds i w) j = wordAt v j := by
  simp [wordAt, ne.symm]

/-- The words are those of an entry of the table: as many as its entries have, and within the 24 bits of a
Wheel Pitch increment (R23). -/
def EntryWords (t : TableId) (ws : List Word) : Prop :=
  ws.length = tableWidth t ∧ (t = .wheelPitch → (ws.headD 0).toNat < 256)

theorem pitchWords_of_words (w v : Word) (small : w.toNat < 256) :
    pitchWords (BitVec.ofNat 24 (w.toNat * 65536 + v.toNat)).toNat = [w, v] := by
  have := v.isLt
  have whole : (BitVec.ofNat 24 (w.toNat * 65536 + v.toNat)).toNat = w.toNat * 65536 + v.toNat := by
    rw [BitVec.toNat_ofNat]
    omega
  have high : (w.toNat * 65536 + v.toNat) / 65536 = w.toNat := by omega
  have low : (w.toNat * 65536 + v.toNat) % 65536 = v.toNat := by omega
  simp [pitchWords, wordOf, whole, high, low]

/-- A stored entry reads as its words. -/
theorem entryWords_storeEntry_same {t : TableId} {i : Nat} {ws : List Word} (s : State)
    (writable : tableWritable t = true) (lt : i < tableEntries t) (ok : EntryWords t ws) :
    (s.storeEntry t i ws).entryWords t i = ws := by
  obtain ⟨len, small⟩ := ok
  by_cases pitch : t = .wheelPitch
  · subst pitch
    obtain ⟨w, v, rfl⟩ := List.length_eq_two.mp len
    have get : (s.tab.wheelPitch.setIfInBounds i (BitVec.ofNat 24 (w.toNat * 65536 + v.toNat)))[i]?
        = some (BitVec.ofNat 24 (w.toNat * 65536 + v.toNat)) := by simp [show i < 96 from lt]
    show pitchWords _ = _
    simp only [State.storeEntry, Tables.setEntry, State.setTab_tab, List.headD_cons, List.getD_cons_succ,
      List.getD_cons_zero, get]
    exact pitchWords_of_words w v (small rfl)
  · have one : tableWidth t = 1 := by cases t <;> first | rfl | contradiction
    obtain ⟨w, rfl⟩ := List.length_eq_one_iff.mp (len.trans one)
    cases t <;> first | contradiction | exact congrArg (fun w => [w]) (wordAt_set_same _ _ lt)

/-- Every other entry of every writable table reads as before. -/
theorem entryWords_storeEntry_other {t u : TableId} {i j : Nat} (s : State) (ws : List Word)
    (writable : tableWritable u = true) (other : u ≠ t ∨ j ≠ i) :
    (s.storeEntry t i ws).entryWords u j = s.entryWords u j := by
  by_cases same : u = t
  · subst same
    have ne : j ≠ i := other.resolve_left (not_not.mpr rfl)
    cases u <;> first
      | contradiction
      | exact congrArg (fun w => [w]) (wordAt_set_other _ _ ne)
      | simp [State.entryWords, State.storeEntry, Tables.setEntry, ne.symm]
  · cases t <;> cases u <;> first | contradiction | rfl

/-- The entries of the writable tables are in the tables. -/
theorem entryWords_congr {u : TableId} {s t : State} (writable : tableWritable u = true) (e : t.tab = s.tab)
    (i : Nat) : t.entryWords u i = s.entryWords u i := by
  cases u <;> first | contradiction | simp only [State.entryWords, e]

/-! ### Several stored entries -/

/-- Entries of a table are stored one after another, and nothing else happens. -/
def storeAll (t : TableId) (es : List (Nat × List Word)) (s : State) : State :=
  es.foldl (fun s e => s.storeEntry t e.1 e.2) s

theorem storeAll_frame (t : TableId) (es : List (Nat × List Word)) (s : State) :
    Frame [.tab] s (storeAll t es s) :=
  Frame.foldl (f := fun s e => s.storeEntry t e.1 e.2) (fun s e => s.storeEntry_frame t e.1 e.2) es s

/-- After entries in index order have been stored, they read as their words and every other entry as before. -/
theorem entryWords_storeAll {t : TableId} {start count : Nat} {words : Nat → List Word} (s : State)
    (writable : tableWritable t = true) (inside : start + count ≤ tableEntries t)
    (ok : ∀ j < count, EntryWords t (words j)) :
    (∀ j < count, (storeAll t (entriesFrom start count words) s).entryWords t (start + j) = words j) ∧
    ∀ u i, tableWritable u = true → u ≠ t ∨ ¬ (start ≤ i ∧ i < start + count) →
      (storeAll t (entriesFrom start count words) s).entryWords u i = s.entryWords u i := by
  refine foldl_entriesFrom (s := s) (P := fun n v => (∀ j < n, v.entryWords t (start + j) = words j) ∧
    ∀ u i, tableWritable u = true → u ≠ t ∨ ¬ (start ≤ i ∧ i < start + n) → v.entryWords u i = s.entryWords u i)
    ⟨nofun, fun _ _ _ _ => rfl⟩ count (fun n v lt ⟨stored, kept⟩ => ⟨fun j hj => ?_, fun u i hu other => ?_⟩)
  · by_cases e : j = n
    · subst e
      exact entryWords_storeEntry_same v writable (by omega) (ok j lt)
    · rw [entryWords_storeEntry_other v _ writable (.inr (by omega)), stored j (by omega)]
  · rw [entryWords_storeEntry_other v _ hu (other.imp_right fun out e => out (by omega)),
      kept u i hu (other.imp_right fun out e => out (by omega))]

/-! ### What a written entry stores -/

theorem setEntry_congr {s s' : State} (e : s'.tab = s.tab) (t : TableId) (i : Nat) (ws : List Word) :
    (s'.storeEntry t i ws).tab = (s.storeEntry t i ws).tab := by
  simp only [State.storeEntry, State.setTab_tab, e]

theorem reconfigure_tab (k : FaultKind) (w : Word) (s : State) :
    (s.reconfigure k w).tab = (s.setFaultEntry k w).tab := by
  have mode : ∀ t : State, (t.reconfigureMode k).tab = t.tab := fun t => (t.reconfigureMode_frame k).tab (by decide)
  have action : ∀ t : State, (t.reconfigureAction k).tab = t.tab :=
    fun t => (t.reconfigureAction_frame k).tab (by decide)
  have signals : ∀ t : State, t.refresh.tab = t.tab := fun t => t.refresh_frame.tab (by decide)
  unfold State.reconfigure
  dsimp only
  rw [signals]
  split <;> split <;> simp only [mode, action]

theorem faultKindOf_toFin {i : Nat} (lt : i < 8) : (faultKindOf i).toFin = ⟨i, lt⟩ := by
  revert i
  decide

/-- A written entry is stored, whatever its owner does about it. -/
theorem writeEntry_tab {t : TableId} {i : Nat} (lt : i < tableEntries t) (s : State) (ws : List Word) :
    (s.writeEntry t i ws).tab = (s.storeEntry t i ws).tab := by
  unfold State.writeEntry
  split
  · have lt8 : i < 8 := lt
    rw [reconfigure_tab]
    simp only [State.setFaultEntry, State.storeEntry, Tables.setEntry, State.setTab_tab, faultKindOf_toFin lt8]
    simp [Vector.setIfInBounds, Vector.set, Array.setIfInBounds, lt8]
  · dsimp only
    split
    · exact (State.silenceWritten_frame _).tab (by decide)
    · split
      · exact (State.enableWritten_frame _ _).tab (by decide)
      · rfl
  · split
    · exact setEntry_congr ((State.retryTicks_frame s).tab (by decide)) _ _ _
    · rfl
  · dsimp only
    split <;> rfl
  · dsimp only
    split
    · exact (State.modeWritten_frame _ _ _).tab (by decide)
    · rfl
  · rfl

theorem storeAll_tab {s s' : State} (e : s'.tab = s.tab) (t : TableId) (es : List (Nat × List Word)) :
    (storeAll t es s').tab = (storeAll t es s).tab := by
  unfold storeAll
  induction es generalizing s s' with
  | nil => exact e
  | cons x es ih => exact ih (setEntry_congr e t x.1 x.2)

theorem storeAll_succ (t : TableId) (start n : Nat) (words : Nat → List Word) (s : State) :
    storeAll t (entriesFrom start (n + 1) words) s
      = (storeAll t (entriesFrom start n words) s).storeEntry t (start + n) (words n) := by
  simp [storeAll, entriesFrom, List.range_succ]

theorem writeList_tab {t : TableId} {es : List (Nat × List Word)} (inside : ∀ e ∈ es, e.1 < tableEntries t) :
    ∀ {s s' : State}, s'.tab = s.tab → (s'.writeList t es).tab = (storeAll t es s).tab := by
  induction es with
  | nil => exact fun e => e
  | cons x es ih =>
    intro s s' e
    have first : (s'.writeEntry t x.1 x.2).tab = (s.storeEntry t x.1 x.2).tab := by
      rw [writeEntry_tab (inside x List.mem_cons_self), setEntry_congr e]
    exact ih (fun y m => inside y (List.mem_cons_of_mem _ m)) first

theorem asEvent_tab {f : State → State} {s : State} : (s.asEvent f).tab = (f s).tab := by
  unfold State.asEvent
  dsimp only
  split
  · rfl
  · exact (State.countChange_frame _).tab (by decide)

theorem writeEntries_tab {t : TableId} {es : List (Nat × List Word)}
    (inside : ∀ e ∈ es, e.1 < tableEntries t) {s s' : State} (e : s'.tab = s.tab) :
    (s'.writeEntries t es).tab = (storeAll t es s).tab := by
  unfold State.writeEntries
  split
  · rw [asEvent_tab, writeList_tab inside e]
  · rw [(State.checkNotice_frame _).tab (by decide), writeList_tab inside e]
  · exact writeList_tab inside e

/-! ### The entries of a WRITE -/

theorem dataWords_entryWords {table : TableId} {payload : List Word} {s : State}
    (passes : WritePasses table payload s) {j : Nat} (lt : j < requestLow payload) :
    EntryWords table (dataWords table payload j) := by
  refine ⟨?_, fun pitch => ?_⟩
  · have : (j + 1) * tableWidth table ≤ requestLow payload * tableWidth table := Nat.mul_le_mul_right _ lt
    simp only [dataWords, List.length_take, List.length_drop, passes.length]
    rw [Nat.add_mul] at this
    omega
  · subst pitch
    have small := inRange_iff.mp (passes.values j lt)
    omega

theorem writtenEntries_inside {table : TableId} {payload : List Word} {s : State}
    (passes : WritePasses table payload s) : ∀ e ∈ writtenEntries table payload, e.1 < tableEntries table := by
  have := passes.bound
  simp only [dataEntries, List.mem_map, List.mem_range]
  rintro _ ⟨j, lt, rfl⟩
  show _ + j < _
  omega

/-- A state whose tables hold what the WRITE stores shows its entries stored (R32). -/
theorem entriesStored_of_tab {table : TableId} {payload : List Word} {s r t : State}
    (passes : WritePasses table payload s) (e : t.tab = (storeAll table (writtenEntries table payload) r).tab) :
    EntriesStored table payload r t := by
  obtain ⟨stored, kept⟩ := entryWords_storeAll (start := (payload.getD 1 0).toNat) r passes.writable passes.bound
    (fun _ => dataWords_entryWords passes)
  exact ⟨fun j lt => (entryWords_congr passes.writable e _).trans (stored j lt),
    fun u i hu other => (entryWords_congr hu e _).trans (kept u i hu other)⟩

/-- A WRITE that passes its checks stores its entries (R32). -/
theorem entriesStored_reply {table : TableId} {payload : List Word} {s : State} {h : Head} {status : Status}
    {echo : Nat} {data : List Word} (passes : WritePasses table payload s) :
    EntriesStored table payload s
      (reply h status echo data ((inHand h s).writeEntries table (writtenEntries table payload))) :=
  entriesStored_of_tab (r := s) passes (writeEntries_tab (s' := inHand h s) (writtenEntries_inside passes) rfl)

end Sys2Proof.Machine.Requests
end

section
namespace Sys2Proof.Machine.Requests

/-! ### Play Settings: the retry timers read their time and no other entry (R183) -/

/-- Tables with the same settings for the fault records, the notices and the retry timers. -/
structure SameFaultSettings (a b : Tables) : Prop where
  faults : b.faultConfiguration = a.faultConfiguration
  link : b.linkSettings = a.linkSettings
  retry : b.playSettings[(13 : Fin 16)] = a.playSettings[(13 : Fin 16)]

section SetTab

variable {s : State} {b : Tables}

theorem faultMode_setTab (e : SameFaultSettings s.tab b) (k : FaultKind) :
    (s.setTab b).faultMode k = s.faultMode k := by
  simp only [State.faultMode, State.setTab_tab, e.faults]

theorem refresh_setTab (e : SameFaultSettings s.tab b) : (s.setTab b).refresh = s.refresh.setTab b := by
  have fault : (s.setTab b).faultWanted = s.faultWanted := by
    simp only [State.faultWanted, faultMode_setTab e]
    rfl
  have warn : (s.setTab b).warnWanted = s.warnWanted := by
    simp only [State.warnWanted, faultMode_setTab e]
    rfl
  have signals : ∀ t : State, t.refresh = ((t.setKey { t.key with hold := t.holdWanted }).setOut
      { t.out with muteRequest := t.muteWanted }).setFlt
      { t.flt with fault := t.faultWanted, warn := t.warnWanted } := fun _ => rfl
  rw [signals, fault, warn]
  rfl

theorem queueNotice_setTab (e : SameFaultSettings s.tab b) :
    (s.setTab b).queueNotice = s.queueNotice.setTab b := by
  simp only [State.queueNotice, State.station, State.setTab_tab, e.link]
  rfl

theorem noticeDue_setTab (e : SameFaultSettings s.tab b) : (s.setTab b).noticeDue = s.noticeDue := by
  simp only [State.noticeDue, State.noticeEnable, State.noticeCount, State.noticeTime, State.setTab_tab,
    State.setTab_req, State.setTab_flt, e.link]
  rfl

theorem checkNotice_setTab (e : SameFaultSettings s.tab b) :
    (s.setTab b).checkNotice = s.checkNotice.setTab b := by
  unfold State.checkNotice
  rw [noticeDue_setTab e, queueNotice_setTab e, State.setTab_flt,
    show (s.setTab b).noticePlace = s.noticePlace from rfl]
  split
  · split <;> rfl
  · rfl

theorem countChange_setTab (e : SameFaultSettings s.tab b) :
    (s.setTab b).countChange = s.countChange.setTab b := by
  have enable : (s.setTab b).noticeEnable = s.noticeEnable := by
    simp only [State.noticeEnable, State.setTab_tab, e.link]
  unfold State.countChange
  rw [enable, State.setTab_req]
  split
  · exact checkNotice_setTab (s := s.setFlt _) e
  · rfl

theorem asEvent_setTab {f : State → State} (same : SameFaultSettings (f s).tab b)
    (comm : f (s.setTab b) = (f s).setTab b) : (s.setTab b).asEvent f = (s.asEvent f).setTab b := by
  unfold State.asEvent
  rw [comm]
  dsimp only
  rw [show ((f s).setTab b).noticeState = (f s).noticeState from rfl,
    show (s.setTab b).noticeState = s.noticeState from rfl]
  split
  · rfl
  · exact countChange_setTab same

theorem endEpisode_setTab (e : SameFaultSettings s.tab b) (k : FaultKind) :
    (s.setTab b).endEpisode k = (s.endEpisode k).setTab b :=
  refresh_setTab (s := s.setRecord k { s.record k with held := none, retry := Timer.stopped }) e

theorem retryTick_setTab (e : SameFaultSettings s.tab b) (k : FaultKind) :
    (s.setTab b).retryTick k = (s.retryTick k).setTab b := by
  have time : (s.setTab b).playSetting 13 = s.playSetting 13 := congrArg BitVec.toNat e.retry
  unfold State.retryTick
  dsimp only
  rw [show (s.setTab b).record k = s.record k from rfl, time]
  split
  · split
    · exact asEvent_setTab (s := s.setRecord k _)
        (((State.endEpisode_frame k _).tab (by decide)).symm ▸ e) (endEpisode_setTab (s := s.setRecord k _) e k)
    · rfl
  · rfl

end SetTab

/-- A Play Settings entry other than the retry time can be stored before or after the retry timers' tick. -/
theorem retryTicks_storeEntry {i : Nat} (ne : i ≠ 13) (ws : List Word) (s : State) :
    (s.storeEntry .playSettings i ws).retryTicks = s.retryTicks.storeEntry .playSettings i ws := by
  have same : ∀ t : State, SameFaultSettings t.tab (t.tab.setEntry .playSettings i ws) := by
    refine fun t => ⟨rfl, rfl, ?_⟩
    simp [Tables.setEntry, ne]
  unfold State.retryTicks
  generalize allKinds = kinds
  induction kinds generalizing s with
  | nil => rfl
  | cons k kinds ih =>
    have step : (s.storeEntry .playSettings i ws).retryTick k = (s.retryTick k).storeEntry .playSettings i ws := by
      have kept : (s.retryTick k).tab = s.tab := (s.retryTick_frame k).tab (by decide)
      rw [State.storeEntry, State.storeEntry, kept, retryTick_setTab (same s)]
    rw [List.foldl_cons, List.foldl_cons, step, ih]

theorem retryTicks_storeAll {start count : Nat} {words : Nat → List Word} (n : ∀ j < count, start + j ≠ 13)
    (s : State) : (storeAll .playSettings (entriesFrom start count words) s).retryTicks
      = storeAll .playSettings (entriesFrom start count words) s.retryTicks := by
  induction count with
  | zero => simp only [storeAll, entriesFrom, List.range_zero, List.map_nil, List.foldl_nil]
  | succ m ih =>
    rw [storeAll_succ, storeAll_succ, ← ih fun j lt => n j (Nat.lt_succ_of_lt lt)]
    exact retryTicks_storeEntry (n m (Nat.lt_succ_self m)) _ _

/-- A WRITE of Play Settings stores its entries; where it writes the retry time, the retry timers take their
tick first (R183; assumption log 20). -/
theorem writeList_playSettings (start count : Nat) (words : Nat → List Word) (s : State) :
    s.writeList .playSettings (entriesFrom start count words)
      = storeAll .playSettings (entriesFrom start count words)
          (if start ≤ 13 ∧ 13 < start + count then s.retryTicks else s) := by
  refine foldl_entriesFrom (s := s) (P := fun n v => v = storeAll .playSettings (entriesFrom start n words)
    (if start ≤ 13 ∧ 13 < start + n then s.retryTicks else s)) ?_ count fun n v lt e => ?_
  · rw [if_neg (by omega)]
    rfl
  · subst e
    rw [storeAll_succ]
    by_cases retry : start + n = 13
    · rw [if_neg (by omega), if_pos (by omega), ← retryTicks_storeAll (fun j lt => by omega)]
      simp only [State.writeEntry, retry, if_true]
    · simp only [State.writeEntry, retry, if_false]
      have same : (start ≤ 13 ∧ 13 < start + (n + 1)) = (start ≤ 13 ∧ 13 < start + n) := by
        rw [eq_iff_iff]
        omega
      simp only [same]

/-! ### Tables without behaviour of their own (R32) -/

theorem writeEntries_plain {t : TableId} (plain : t.plain = true) (es : List (Nat × List Word)) (s : State) :
    s.writeEntries t es = storeAll t es s := by
  cases t <;> first | contradiction | rfl

/-- Settles O19. -/
theorem plainWritesAreStored : Obligations.PlainWritesAreStored := by
  intro c h payload table s ready room e passes stored
  have go := exec_writePasses e ready room passes
  have done : ∀ u v : State, v.tab = u.tab → v.lnk.replies = u.lnk.replies →
      Frame [.replies, .place, .tab] u v → (inHand h s).writeEntries table (writtenEntries table payload)
        = storeAll table (writtenEntries table payload) v → stored u := by
    intro u v tab q frame eq
    rw [eq] at go
    refine ⟨_, go, entriesStored_of_tab passes (storeAll_tab tab _ _), replied_reply _ _ _ ?_,
      (frame.trans ((storeAll_frame _ _ _).mono (by decide))).trans ((reply_frame _ _ _ _ _).mono (by decide))⟩
    rw [(storeAll_frame _ _ _).replies (by decide), q, List.append_nil]
  have hand : Frame [.replies, .place, .tab] s (inHand h s) := (inHand_frame h s).mono (by decide)
  refine ⟨fun plain => done s (inHand h s) rfl rfl hand (writeEntries_plain plain _ _), ?_⟩
  rintro rfl
  have list := writeList_playSettings (payload.getD 1 0).toNat (requestLow payload)
    (dataWords .playSettings payload) (inHand h s)
  refine ⟨fun n => done s (inHand h s) rfl rfl hand (list.trans (congrArg (storeAll _ _) (if_neg n))), fun w => ?_⟩
  have place : (if h.sent = .addressed then s.setLnk { s.lnk with replyHeld := true } else s) = inHand h s := by
    cases b : h.sent with
    | broadcast => simp [inHand_broadcast b]
    | addressed => rw [if_pos rfl, inHand_addressed b]; rfl
  rw [place]
  exact ⟨_, retryTicks_eq_rows ready.1, done _ _ rfl rfl (Frame.refl _ _)
    (list.trans (congrArg (storeAll _ _) (if_pos w)))⟩

end Sys2Proof.Machine.Requests
end

section
namespace Sys2Proof.Machine.Requests

/-! ### Rotor Settings (R155) -/

/-- The Rotor Settings entry that holds the speed which the selector names for a rotor; none under STOP
(R155). -/
def speedEntry : Selector → RotorId → Option Nat
  | .slow, .horn => some 0
  | .fast, .horn => some 1
  | .slow, .drum => some 4
  | .fast, .drum => some 5
  | .stop, _ => none

theorem rotorOfSpeed_iff {sel : Selector} {i : Nat} {r : RotorId} :
    rotorOfSpeed sel i = some r ↔ speedEntry sel r = some i := by
  constructor
  · intro e
    unfold rotorOfSpeed at e
    split at e <;> cases e <;> rfl
  · intro e
    unfold speedEntry at e
    split at e <;> cases e <;> rfl

theorem wordAt_get {n : Nat} (v : Vector Word n) (i : Fin n) : wordAt v i = v[i] := by
  simp [wordAt]

theorem targetSpeed_eq {sel : Selector} {r : RotorId} {j : Nat} (s : State) (e : speedEntry sel r = some j)
    (brake : Bool) : targetSpeed sel brake (s.slowSpeed r) (s.fastSpeed r) = (wordAt s.tab.rotorSettings j).toNat := by
  unfold speedEntry at e
  split at e <;> cases e <;> exact (congrArg BitVec.toNat (wordAt_get _ _)).symm

theorem Rotor.retarget_retargeted (r : Rotor) {sel : Selector} (n : sel ≠ .stop) (brake : Bool) (slow fast : Nat) :
    r.Retargeted (targetSpeed sel brake slow fast) (arrivalState sel brake) (r.retarget sel brake slow fast) := by
  unfold Rotor.retarget
  rw [if_neg fun c => n c.1]
  exact ⟨⟨rfl, rfl, rfl⟩, rfl, rfl, rfl⟩

theorem rotor_setRotor (u : RotorUnit) (i j : RotorId) (r : Rotor) :
    (u.setRotor i r).rotor j = if j = i then r else u.rotor j := by
  cases i <;> cases j <;> rfl

theorem setRotor_others (u v : RotorUnit) (i : RotorId) (r : Rotor)
    (e : v = { u with horn := v.horn, drum := v.drum }) :
    v.setRotor i r = { u with horn := (v.setRotor i r).horn, drum := (v.setRotor i r).drum } := by
  rw [e]
  cases i <;> rfl

/-- Once the first n of some Rotor Settings entries have been written: a rotor whose speed in force is among
them has been retargeted to it, and nothing else of ROT has changed (R155). -/
structure RotorsWritten (start n : Nat) (s v : State) : Prop where
  others : v.rot = { s.rot with horn := v.rot.horn, drum := v.rot.drum }
  named : ∀ r j, speedEntry s.rot.selector r = some j → start ≤ j → j < start + n →
    (s.rot.rotor r).Retargeted (wordAt v.tab.rotorSettings j).toNat (arrivalState s.rot.selector s.rot.brake)
      (v.rot.rotor r)
  kept : ∀ r, (∀ j, speedEntry s.rot.selector r = some j → ¬ (start ≤ j ∧ j < start + n)) →
    v.rot.rotor r = s.rot.rotor r

theorem RotorsWritten.zero {s v : State} (e : v.rot = s.rot) (start : Nat) : RotorsWritten start 0 s v where
  others := by rw [e]
  named r j _ a b := by omega
  kept r _ := by rw [e]

/-- One more written entry. -/
theorem RotorsWritten.succ {start n : Nat} {s v : State} (w : RotorsWritten start n s v) (ws : List Word) :
    RotorsWritten start (n + 1) s (v.writeEntry .rotorSettings (start + n) ws) := by
  have sel : v.rot.selector = s.rot.selector := by rw [w.others]
  have brake : v.rot.brake = s.rot.brake := by rw [w.others]
  have old : ∀ j, j ≠ start + n → wordAt (v.storeEntry .rotorSettings (start + n) ws).tab.rotorSettings j
      = wordAt v.tab.rotorSettings j := fun j ne => wordAt_set_other _ _ ne
  unfold State.writeEntry
  dsimp only
  rw [sel]
  cases e : rotorOfSpeed s.rot.selector (start + n) with
  | none =>
    have none : ∀ r, speedEntry s.rot.selector r ≠ some (start + n) := fun r h => by
      rw [rotorOfSpeed_iff.mpr h] at e
      cases e
    refine ⟨w.others, fun r j h a b => ?_, fun r h => w.kept r fun j hj out => h j hj (by omega)⟩
    have ne : j ≠ start + n := fun x => none r (x ▸ h)
    show Rotor.Retargeted (wordAt (v.storeEntry _ _ _).tab.rotorSettings j).toNat _ _ _
    rw [old j ne]
    exact w.named r j h a (by omega)
  | some i =>
    have mine := rotorOfSpeed_iff.mp e
    have moving : s.rot.selector ≠ .stop := fun x => by
      rw [x] at mine
      cases mine
    have rotors : ∀ r, ((v.storeEntry .rotorSettings (start + n) ws).retarget i).rot.rotor r
        = if r = i then (v.rot.rotor i).retarget s.rot.selector s.rot.brake
            ((v.storeEntry .rotorSettings (start + n) ws).slowSpeed i)
            ((v.storeEntry .rotorSettings (start + n) ws).fastSpeed i)
          else v.rot.rotor r := fun r => by
      rw [← sel, ← brake]
      exact rotor_setRotor _ _ _ _
    refine ⟨setRotor_others _ _ _ _ w.others, fun r j h a b => ?_, fun r h => ?_⟩
    · show Rotor.Retargeted (wordAt (v.storeEntry _ _ _).tab.rotorSettings j).toNat _ _ _
      rw [rotors]
      split
      · next same =>
        subst same
        obtain rfl : start + n = j := Option.some.inj (mine.symm.trans h)
        rw [w.kept r fun j' h' out => by have := Option.some.inj (mine.symm.trans h'); omega,
          ← targetSpeed_eq _ mine s.rot.brake]
        exact Rotor.retarget_retargeted _ moving _ _ _
      · next other =>
        have ne : j ≠ start + n := by
          rintro rfl
          rw [rotorOfSpeed_iff.mpr h] at e
          exact other (Option.some.inj e)
        rw [old j ne]
        exact w.named r j h a (by omega)
    · have other : r ≠ i := by
        rintro rfl
        exact h _ mine (by omega)
      rw [rotors, if_neg other]
      exact w.kept r fun j hj out => h j hj (by omega)

theorem rotorsWritten_writeList (start count : Nat) (words : Nat → List Word) {s u : State}
    (e : u.rot = s.rot) :
    RotorsWritten start count s (u.writeList .rotorSettings (entriesFrom start count words)) :=
  foldl_entriesFrom (P := fun n v => RotorsWritten start n s v) (RotorsWritten.zero e start) count
    fun _ _ _ w => w.succ _

/-- A written Rotor Settings entry touches the tables and ROT only. -/
theorem writeList_rotors_frame (es : List (Nat × List Word)) (s : State) :
    Frame [.tab, .rot] s (s.writeList .rotorSettings es) := by
  unfold State.writeList
  refine Frame.foldl (f := fun s e => State.writeEntry .rotorSettings s e.1 e.2) (fun v e => ?_) es s
  have stored := (v.storeEntry_frame .rotorSettings e.1 e.2).mono (b := [.tab, .rot]) (by decide)
  unfold State.writeEntry
  dsimp only
  split
  · exact stored.trans ((State.retarget_frame _ _).mono (by decide))
  · exact stored

/-- Settles O21. -/
theorem rotorSettingsAreWritten : Obligations.RotorSettingsAreWritten := by
  intro c h payload s ready room e passes
  have go := exec_writePasses e ready room passes
  have thirteen : requestHigh payload = 13 := tableOfId_eq_some passes.id
  have written := rotorsWritten_writeList (payload.getD 1 0).toNat (requestLow payload)
    (dataWords .rotorSettings payload) (s := s) (u := inHand h s) rfl
  have frame := writeList_rotors_frame (writtenEntries .rotorSettings payload) (inHand h s)
  rw [thirteen] at go
  refine ⟨_, go, entriesStored_reply passes, replied_reply _ _ _ ?_, ?_, written.others, fun i => ?_⟩
  · exact (frame.replies (by decide)).trans (List.append_nil _).symm
  · exact frame_reply _ _ _ (frame.mono (by decide)) (by decide) (by decide)
  · refine ⟨fun slow w => ?_, fun fast w => ?_, fun ns nf => written.kept i fun j hj w => ?_⟩
    · have named := written.named i _ (by rw [slow]; cases i <;> rfl) w.1 w.2
      rw [slow] at named
      exact named
    · have named := written.named i _ (by rw [fast]; cases i <;> rfl) w.1 w.2
      rw [fast] at named
      exact named
    · cases sel : s.rot.selector with
      | stop => rw [sel] at hj; cases hj
      | slow => rw [sel] at hj; exact ns ⟨sel, by cases i <;> cases hj <;> exact w⟩
      | fast => rw [sel] at hj; exact nf ⟨sel, by cases i <;> cases hj <;> exact w⟩

/-! ### Output Settings (R176) -/

/-- The limiter mode that an Output Settings table gives an output (R23). -/
def modeOf (v : State) (o : OutputId) : LimitMode := limitModeOfWord (wordAt v.tab.outputSettings (3 * o.val + 2))

theorem limitMode_eq {s : State} (ready : s.req.opState ≠ .initializing) (o : OutputId) :
    s.limitMode o = modeOf s o := by
  simp [State.limitMode, State.outputWord, ready, modeOf]

/-- Once the first n of some Output Settings entries have been written: an output whose mode has changed has
ended its episode and starts its run afresh, and nothing else of OUT has changed (R176). -/
structure OutputsWritten (start n : Nat) (s v : State) : Prop where
  others : v.out = { s.out with limiters := v.out.limiters }
  changed : ∀ o : OutputId, modeOf v o ≠ modeOf s o →
    v.out.limiters[o] = { s.out.limiters[o] with run := 0, episode := none }
  kept : ∀ o : OutputId, modeOf v o = modeOf s o → v.out.limiters[o] = s.out.limiters[o]
  later : ∀ j, start + n ≤ j → wordAt v.tab.outputSettings j = wordAt s.tab.outputSettings j

theorem OutputsWritten.succ {start n : Nat} {s v : State} (w : OutputsWritten start n s v)
    (lt : start + n < 12) (ws : List Word) :
    OutputsWritten start (n + 1) s (v.writeEntry .outputSettings (start + n) ws) := by
  have word : ∀ j, j ≠ start + n → wordAt (v.storeEntry .outputSettings (start + n) ws).tab.outputSettings j
      = wordAt v.tab.outputSettings j := fun j ne => wordAt_set_other _ _ ne
  have mode : ∀ o : OutputId, 3 * o.val + 2 ≠ start + n →
      modeOf (v.storeEntry .outputSettings (start + n) ws) o = modeOf v o := fun o ne => by
    rw [modeOf, word _ ne, modeOf]
  have later : ∀ j, start + (n + 1) ≤ j →
      wordAt (v.storeEntry .outputSettings (start + n) ws).tab.outputSettings j = wordAt s.tab.outputSettings j :=
    fun j hj => (word j (by omega)).trans (w.later j (by omega))
  unfold State.writeEntry
  dsimp only
  split
  · next third =>
    obtain ⟨o, ho⟩ : ∃ o : OutputId, start + n = 3 * o.val + 2 := ⟨⟨(start + n) / 3, by omega⟩, by simp only []; omega⟩
    have index : Fin.ofNat 4 ((start + n) / 3) = o := by
      apply Fin.ext
      have := o.isLt
      simp only [Fin.val_ofNat]
      omega
    have same : modeOf v o = modeOf s o := by rw [modeOf, modeOf, w.later _ (by omega)]
    have old : limitModeOfWord (wordAt v.tab.outputSettings (start + n)) = modeOf s o := by rw [ho]; exact same
    have limiter : v.out.limiters[o] = s.out.limiters[o] := w.kept o same
    rw [index]
    unfold State.modeWritten
    rw [old]
    split
    · next e =>
      refine ⟨w.others, fun p ne => ?_, fun p eq => ?_, later⟩
      · by_cases hp : p = o
        · exact absurd (hp ▸ e.symm) ne
        · have ne' : 3 * p.val + 2 ≠ start + n := fun x => hp (Fin.ext (by omega))
          exact w.changed p (mode p ne' ▸ ne)
      · by_cases hp : p = o
        · exact hp ▸ limiter
        · have ne' : 3 * p.val + 2 ≠ start + n := fun x => hp (Fin.ext (by omega))
          exact w.kept p (mode p ne' ▸ eq)
    · next e =>
      refine ⟨?_, fun p ne => ?_, fun p eq => ?_, later⟩
      · show ({ v.out with limiters := _ } : OutputUnit) = _
        rw [w.others]
        rfl
      · by_cases hp : p = o
        · subst hp
          rw [← limiter]
          exact Vector.getElem_set_self _
        · have ne' : 3 * p.val + 2 ≠ start + n := fun x => hp (Fin.ext (by omega))
          rw [← w.changed p (mode p ne' ▸ ne)]
          exact Vector.getElem_set_ne o.isLt p.isLt fun x => hp (Fin.ext x.symm)
      · by_cases hp : p = o
        · exact absurd (hp ▸ eq.symm) e
        · have ne' : 3 * p.val + 2 ≠ start + n := fun x => hp (Fin.ext (by omega))
          rw [← w.kept p (mode p ne' ▸ eq)]
          exact Vector.getElem_set_ne o.isLt p.isLt fun x => hp (Fin.ext x.symm)
  · next other =>
    have ne : ∀ o : OutputId, 3 * o.val + 2 ≠ start + n := fun o => by omega
    exact ⟨w.others, fun o h => w.changed o (mode o (ne o) ▸ h), fun o h => w.kept o (mode o (ne o) ▸ h), later⟩

theorem outputsWritten_writeList {start count : Nat} (inside : start + count ≤ 12) (words : Nat → List Word)
    {s u : State} (out : u.out = s.out) (tab : u.tab = s.tab) :
    OutputsWritten start count s (u.writeList .outputSettings (entriesFrom start count words)) := by
  have mode : ∀ o, modeOf u o = modeOf s o := fun o => by rw [modeOf, modeOf, tab]
  exact foldl_entriesFrom (P := fun n v => OutputsWritten start n s v)
    ⟨by rw [out], fun o ne => absurd (mode o) ne, fun o _ => by rw [out], fun _ _ => by rw [tab]⟩ count
    fun n _ lt w => w.succ (by omega) _

/-- A written Output Settings entry touches the tables and OUT only. -/
theorem writeList_outputs_frame (es : List (Nat × List Word)) (s : State) :
    Frame [.tab, .out] s (s.writeList .outputSettings es) := by
  unfold State.writeList
  refine Frame.foldl (f := fun s e => State.writeEntry .outputSettings s e.1 e.2) (fun v e => ?_) es s
  have stored := (v.storeEntry_frame .outputSettings e.1 e.2).mono (b := [.tab, .out]) (by decide)
  unfold State.writeEntry
  dsimp only
  split
  · exact stored.trans ((State.modeWritten_frame _ _ _).mono (by decide))
  · exact stored

/-- Settles O22. -/
theorem outputSettingsAreWritten : Obligations.OutputSettingsAreWritten := by
  intro c h payload s ready room e passes
  have go := exec_writePasses e ready room passes
  have fourteen : requestHigh payload = 14 := tableOfId_eq_some passes.id
  have written := outputsWritten_writeList (start := (payload.getD 1 0).toNat) (count := requestLow payload)
    passes.bound (dataWords .outputSettings payload) (s := s) (u := inHand h s) rfl rfl
  have frame := writeList_outputs_frame (writtenEntries .outputSettings payload) (inHand h s)
  have state : ((inHand h s).writeList .outputSettings (writtenEntries .outputSettings payload)).req.opState
      ≠ .initializing := by
    rw [frame.req (by decide)]
    exact ready.2
  rw [fourteen] at go
  refine ⟨_, go, entriesStored_reply passes, replied_reply _ _ _ ?_, ?_, written.others, fun o => ?_⟩
  · exact (frame.replies (by decide)).trans (List.append_nil _).symm
  · exact frame_reply _ _ _ (frame.mono (by decide)) (by decide) (by decide)
  · have mode := limitMode_eq (s := reply h .ok 14 [] ((inHand h s).writeEntries .outputSettings
      (writtenEntries .outputSettings payload))) state o
    rw [mode, limitMode_eq ready.2]
    exact ⟨written.changed o, written.kept o⟩

end Sys2Proof.Machine.Requests
end

section
/-!
PROOFS. Notices and signals: what an event of the notice state comes to, and what keeps the signals in step with
the fault records (11_faults_and_notices.md 11.5, 11.7).
-/

namespace Sys2Proof.Machine.Requests

/-! ### One fault record -/

theorem faultKindOf_kind (k : FaultKind) : faultKindOf k.toFin.val = k := by cases k <;> rfl

theorem toFin_ne {j k : FaultKind} (ne : j ≠ k) : (k.toFin : Nat) ≠ j.toFin :=
  fun e => ne (by rw [← faultKindOf_kind j, ← e, faultKindOf_kind])

theorem record_setRecord (s : State) (k j : FaultKind) (r : FaultRecord) :
    (s.setRecord k r).record j = if j = k then r else s.record j := by
  by_cases e : j = k
  · subst e
    simp [State.setRecord, State.record]
  · simp [State.setRecord, State.record, e, Vector.getElem_set_ne, toFin_ne e]

/-! ### What an operation leaves of the notices and of the summary -/

/-- From s to t no notice has been counted, queued or timed, and the silence timer goes on. -/
structure NoticesKept (s t : State) : Prop where
  pendingChanges : t.flt.pendingChanges = s.flt.pendingChanges
  noticeTimer : t.flt.noticeTimer = s.flt.noticeTimer
  waiting : t.flt.waiting = s.flt.waiting
  silence : t.flt.silence = s.flt.silence

theorem NoticesKept.refl (s : State) : NoticesKept s s := ⟨rfl, rfl, rfl, rfl⟩

theorem NoticesKept.trans {s t u : State} (a : NoticesKept s t) (b : NoticesKept t u) : NoticesKept s u :=
  ⟨b.pendingChanges.trans a.pendingChanges, b.noticeTimer.trans a.noticeTimer, b.waiting.trans a.waiting,
    b.silence.trans a.silence⟩

theorem NoticesKept.of_flt {s t : State} (e : t.flt = s.flt) : NoticesKept s t :=
  ⟨by rw [e], by rw [e], by rw [e], by rw [e]⟩

theorem setRecord_noticesKept (s : State) (k : FaultKind) (r : FaultRecord) : NoticesKept s (s.setRecord k r) :=
  ⟨rfl, rfl, rfl, rfl⟩

/-- From s to t nothing that the signals and the notice state are made of has changed, and no signal (R186,
R188). -/
structure SummaryKept (s t : State) : Prop where
  flags : ∀ k, (t.record k).flag = (s.record k).flag
  held : ∀ k, (t.record k).held = (s.record k).held
  faults : t.tab.faultConfiguration = s.tab.faultConfiguration
  limits : t.out.limiters = s.out.limiters
  opState : t.req.opState = s.req.opState
  hold : t.key.hold = s.key.hold
  mute : t.out.muteRequest = s.out.muteRequest
  fault : t.flt.fault = s.flt.fault
  warn : t.flt.warn = s.flt.warn

namespace SummaryKept

variable {s t u : State}

theorem refl (s : State) : SummaryKept s s := ⟨fun _ => rfl, fun _ => rfl, rfl, rfl, rfl, rfl, rfl, rfl, rfl⟩

theorem trans (a : SummaryKept s t) (b : SummaryKept t u) : SummaryKept s u :=
  ⟨fun k => (b.flags k).trans (a.flags k), fun k => (b.held k).trans (a.held k), b.faults.trans a.faults,
    b.limits.trans a.limits, b.opState.trans a.opState, b.hold.trans a.hold, b.mute.trans a.mute,
    b.fault.trans a.fault, b.warn.trans a.warn⟩

/-- What touches no part that the summary reads or shows. -/
theorem of_frame {l : List Block} (f : Frame l s t) (req : Block.req ∉ l) (tab : Block.tab ∉ l)
    (hold : Block.hold ∉ l) (out : Block.out ∉ l) (mute : Block.mute ∉ l)
    (flags : ∀ k, (t.record k).flag = (s.record k).flag) (held : ∀ k, (t.record k).held = (s.record k).held)
    (fault : t.flt.fault = s.flt.fault) (warn : t.flt.warn = s.flt.warn) : SummaryKept s t :=
  ⟨flags, held, by rw [f.tab tab], by rw [f.allOut out mute], by rw [f.req req], f.hold hold, f.mute mute, fault,
    warn⟩

theorem inForce (a : SummaryKept s t) (x : Action) : t.inForce x = s.inForce x := by
  simp only [State.inForce, a.held]

theorem faultMode (a : SummaryKept s t) (k : FaultKind) : t.faultMode k = s.faultMode k := by
  simp only [State.faultMode, a.faults]

theorem noticeState (a : SummaryKept s t) : t.noticeState = s.noticeState := by
  simp only [State.noticeState, a.flags, a.inForce, a.limits, a.opState]

theorem noticeWords (a : SummaryKept s t) : t.noticeWords = s.noticeWords := by
  simp only [State.noticeWords, a.flags, a.inForce, a.limits, a.opState, a.fault, a.warn]

theorem signalled (a : SummaryKept s t) (h : s.Signalled) : t.Signalled where
  hold := by rw [a.hold, h.hold, State.holdWanted, State.holdWanted, a.inForce]
  mute := by rw [a.mute, h.mute, State.muteWanted, State.muteWanted, a.inForce, a.opState]
  fault := by simp only [a.fault, h.fault, State.faultWanted, a.inForce, a.faultMode, a.flags]
  warn := by simp only [a.warn, h.warn, State.warnWanted, a.faultMode, a.flags, State.anyLimitFlag, a.limits]

end SummaryKept

theorem reply_summaryKept (h : Head) (status : Status) (echo : Nat) (data : List Word) (s : State) :
    SummaryKept s (reply h status echo data s) :=
  ⟨fun _ => rfl, fun _ => rfl, rfl, rfl, rfl, rfl, rfl, rfl, rfl⟩

/-! ### The signals (R186) -/

/-- After a refresh the signals are what the records call for. -/
theorem refresh_signalled (s : State) : s.refresh.Signalled := ⟨rfl, rfl, rfl, rfl⟩

theorem refresh_noticesKept (s : State) : NoticesKept s s.refresh := ⟨rfl, rfl, rfl, rfl⟩

/-! ### A notice that falls due (R189, R190) -/

theorem noticeDue_iff {s : State} (ready : s.req.opState ≠ .initializing) : s.noticeDue = true ↔
    s.noticeEnable = true ∧ (s.noticeCount ≤ s.flt.pendingChanges ∨
      (1 ≤ s.flt.pendingChanges ∧ s.noticeTime ≠ 0 ∧ 64 * s.noticeTime ≤ s.flt.noticeTimer.count)) := by
  simp [State.noticeDue, ready, and_assoc]

/-- Counting or queueing a notice changes nothing of FLT but the pending changes, the notice timer and the
waiting mark. -/
theorem checkNotice_flt (s : State) : ∃ p timer w,
    s.checkNotice.flt = { s.flt with pendingChanges := p, noticeTimer := timer, waiting := w } := by
  unfold State.checkNotice
  split
  · split
    · exact ⟨_, _, _, rfl⟩
    · exact ⟨_, _, _, rfl⟩
  · exact ⟨_, _, _, rfl⟩

theorem countChange_flt (s : State) : ∃ p timer w,
    s.countChange.flt = { s.flt with pendingChanges := p, noticeTimer := timer, waiting := w } := by
  unfold State.countChange
  split
  · obtain ⟨p, timer, w, e⟩ := checkNotice_flt
      (s.setFlt { s.flt with pendingChanges := min 255 (s.flt.pendingChanges + 1) })
    exact ⟨p, timer, w, e⟩
  · exact ⟨_, _, _, rfl⟩

theorem countChange_records (s : State) : s.countChange.flt.records = s.flt.records := by
  obtain ⟨p, timer, w, e⟩ := countChange_flt s
  rw [e]

theorem countChange_record (s : State) (k : FaultKind) : s.countChange.record k = s.record k := by
  rw [State.record, countChange_records, State.record]

theorem countChange_silence (s : State) : s.countChange.flt.silence = s.flt.silence := by
  obtain ⟨p, timer, w, e⟩ := countChange_flt s
  rw [e]

theorem checkNotice_summaryKept (s : State) : SummaryKept s s.checkNotice := by
  obtain ⟨p, timer, w, e⟩ := checkNotice_flt s
  exact .of_frame s.checkNotice_frame (by decide) (by decide) (by decide) (by decide) (by decide)
    (fun k => by simp only [State.record, e]) (fun k => by simp only [State.record, e]) (by rw [e]) (by rw [e])

theorem countChange_summaryKept (s : State) : SummaryKept s s.countChange := by
  obtain ⟨p, timer, w, e⟩ := countChange_flt s
  exact .of_frame s.countChange_frame (by decide) (by decide) (by decide) (by decide) (by decide)
    (fun k => by simp only [State.record, e]) (fun k => by simp only [State.record, e]) (by rw [e]) (by rw [e])

/-- Looking whether a notice is due comes to what R189 and R190 say of the changes that are pending. -/
theorem checkNotice_checked {s : State} (ready : s.req.opState ≠ .initializing) : ∃ notices,
    s.checkNotice.lnk.replies = s.lnk.replies ++ notices ∧
    NoticeChecked s.flt.pendingChanges s.flt.noticeTimer s.flt.waiting (s.noticePlace = true) notices
      s.checkNotice := by
  have kept := checkNotice_summaryKept s
  have tab : s.checkNotice.tab = s.tab := s.checkNotice_frame.tab (by decide)
  have due : s.noticeDue = true ↔ s.checkNotice.noticeEnable = true ∧
      (s.checkNotice.noticeCount ≤ s.flt.pendingChanges ∨ (1 ≤ s.flt.pendingChanges ∧
        s.checkNotice.noticeTime ≠ 0 ∧ 64 * s.checkNotice.noticeTime ≤ s.flt.noticeTimer.count)) := by
    rw [noticeDue_iff ready, State.noticeEnable, State.noticeCount, State.noticeTime, State.noticeEnable,
      State.noticeCount, State.noticeTime, tab]
  have frame : frameWords s.checkNotice.station 9 0 s.checkNotice.noticeWords
      = frameWords s.station 9 0 s.noticeWords := by
    rw [kept.noticeWords, State.station, State.station, tab]
  unfold NoticeChecked
  rw [← due, frame]
  by_cases d : s.noticeDue = true ∧ s.flt.waiting = false
  · by_cases p : s.noticePlace = true
    · have go : s.checkNotice = s.queueNotice := by simp [State.checkNotice, d, p]
      rw [go]
      exact ⟨_, rfl, fun _ _ _ => ⟨rfl, rfl, rfl, rfl⟩, fun _ _ n => absurd p n,
        fun n => absurd d (by simpa [Classical.or_iff_not_imp_left] using n)⟩
    · have go : s.checkNotice = s.setFlt { s.flt with waiting := true } := by simp [State.checkNotice, d, p]
      rw [go]
      exact ⟨[], (List.append_nil _).symm, fun _ _ r => absurd r p, fun _ _ _ => ⟨rfl, rfl, rfl, rfl⟩,
        fun n => absurd d (by simpa [Classical.or_iff_not_imp_left] using n)⟩
  · have go : s.checkNotice = s := by
      refine if_neg fun c => d ?_
      simpa using c
    rw [go]
    exact ⟨[], (List.append_nil _).symm, fun a b => absurd ⟨a, b⟩ d, fun a b => absurd ⟨a, b⟩ d,
      fun _ => ⟨rfl, rfl, rfl, rfl⟩⟩

/-- An event that leaves LNK and the notices alone counts one change if it changes the notice state, and a
notice may fall due (R189). -/
theorem asEvent_counted {f : State → State} {s : State} (kept : NoticesKept s (f s))
    (lnk : (f s).lnk = s.lnk) (ready : (f s).req.opState ≠ .initializing) : ∃ notices,
    (s.asEvent f).lnk.replies = s.lnk.replies ++ notices ∧
    ChangeCounted (s.noticePlace = true) notices s (s.asEvent f) := by
  unfold State.asEvent
  dsimp only
  by_cases same : (f s).noticeState = s.noticeState
  · rw [if_pos same]
    exact ⟨[], by rw [lnk, List.append_nil], fun c => absurd same c.2,
      fun _ => ⟨rfl, kept.pendingChanges, kept.noticeTimer, kept.waiting⟩⟩
  · rw [if_neg same]
    have state : (f s).countChange.noticeState ≠ s.noticeState := by
      rw [(countChange_summaryKept (f s)).noticeState]
      exact same
    have enable : (f s).countChange.noticeEnable = (f s).noticeEnable := by
      rw [State.noticeEnable, (f s).countChange_frame.tab (by decide), State.noticeEnable]
    have counts : (f s).countChange = if (f s).noticeEnable then ((f s).setFlt { (f s).flt with
        pendingChanges := min 255 ((f s).flt.pendingChanges + 1) }).checkNotice else f s := by
      simp [State.countChange, ready]
    unfold ChangeCounted
    rw [enable]
    cases en : (f s).noticeEnable with
    | false =>
      rw [counts, en, if_neg (by decide)]
      exact ⟨[], by rw [lnk, List.append_nil], by simp,
        fun _ => ⟨rfl, kept.pendingChanges, kept.noticeTimer, kept.waiting⟩⟩
    | true =>
      obtain ⟨notices, queue, checked⟩ := checkNotice_checked (s := (f s).setFlt { (f s).flt with
        pendingChanges := min 255 ((f s).flt.pendingChanges + 1) }) ready
      have place : ((f s).setFlt { (f s).flt with
          pendingChanges := min 255 ((f s).flt.pendingChanges + 1) }).noticePlace = s.noticePlace := by
        simp only [State.noticePlace, State.setFlt_lnk, lnk]
      rw [place, State.setFlt_flt, kept.pendingChanges, kept.noticeTimer, kept.waiting] at checked
      rw [counts, en, if_pos rfl] at state ⊢
      refine ⟨notices, by rw [queue, State.setFlt_lnk, lnk], fun _ => ?_, fun c => ?_⟩
      · rw [kept.pendingChanges]
        exact checked
      · exact absurd (c.resolve_left (by decide)) state

theorem noticePlace_inHand (h : Head) (s : State) : (inHand h s).noticePlace = true ↔ s.NoticeRoom h.sent := by
  simp [State.noticePlace, State.NoticeRoom, replyCapacity, inHand]

theorem noticePlace_broadcast (s : State) : s.noticePlace = true ↔ s.NoticeRoom .broadcast := by
  rw [State.noticePlace, decide_eq_true_iff]
  simp [State.NoticeRoom, replyCapacity]

/-- A count of a change for a state that the summary and the notices of another agree with. -/
theorem ChangeCounted.of_kept {room room' : Prop} {notices : List (List Word)} {s r t : State}
    (c : ChangeCounted room notices r t) (place : room ↔ room') (kept : NoticesKept s r)
    (state : r.noticeState = s.noticeState) : ChangeCounted room' notices s t := by
  rw [← propext place]
  unfold ChangeCounted at c ⊢
  rw [← kept.pendingChanges, ← kept.noticeTimer, ← kept.waiting, ← state]
  exact c

/-- The answer to a request does not touch what a count of a change speaks of. -/
theorem ChangeCounted.reply {room : Prop} {notices : List (List Word)} {h : Head} {s t : State}
    (c : ChangeCounted room notices s t) (st : Status) (echo : Nat) (data : List Word) :
    ChangeCounted room notices s (reply h st echo data t) := c

/-- An event after its change: what it leaves of everything but the notices. -/
theorem asEvent_or_countChange (f : State → State) (s : State) :
    s.asEvent f = f s ∨ s.asEvent f = (f s).countChange := by
  unfold State.asEvent
  dsimp only
  split
  · exact .inl rfl
  · exact .inr rfl

theorem asEvent_summaryKept (f : State → State) (s : State) : SummaryKept (f s) (s.asEvent f) := by
  rcases asEvent_or_countChange f s with e | e
  · rw [e]
    exact .refl _
  · rw [e]
    exact countChange_summaryKept _

theorem asEvent_records (f : State → State) (s : State) : (s.asEvent f).flt.records = (f s).flt.records := by
  rcases asEvent_or_countChange f s with e | e
  · rw [e]
  · rw [e, countChange_records]

theorem asEvent_record (f : State → State) (s : State) (k : FaultKind) : (s.asEvent f).record k = (f s).record k := by
  rw [State.record, asEvent_records, State.record]

theorem asEvent_silence (f : State → State) (s : State) : (s.asEvent f).flt.silence = (f s).flt.silence := by
  rcases asEvent_or_countChange f s with e | e
  · rw [e]
  · rw [e, countChange_silence]

theorem asEvent_notices (f : State → State) (s : State) : Frame [.replies, .flt] (f s) (s.asEvent f) := by
  rcases asEvent_or_countChange f s with e | e
  · rw [e]
    exact Frame.refl _ _
  · rw [e]
    exact State.countChange_frame _

end Sys2Proof.Machine.Requests
end

section
/-!
PROOFS. Releases: what opening the contacts of some keys and releasing some manuals comes to
(03_keys_and_the_key_map.md 3.8, 04_contact_sequencing.md 4.6, 06_wheel_engines.md R102, R110).
-/

namespace Sys2Proof.Machine.Requests

/-! ### Key records -/

theorem setKeyRecord_get (s : State) (k j : KeyId) (r : KeyRecord) :
    (s.setKeyRecord k r).key.records[j] = if j = k then r else s.key.records[j] := by
  by_cases e : j = k
  · subst e
    simp [State.setKeyRecord]
  · have ne : (k : Nat) ≠ j := fun h => e (Fin.ext h.symm)
    simp [State.setKeyRecord, e, Vector.getElem_set_ne, ne]

theorem setContact_contact (s : State) (k j : KeyId) (c d : ContactId) (x : Contact) :
    (s.setContact k c x).contact j d = if (j, d) = (k, c) then x else s.contact j d := by
  unfold State.contact State.setContact
  rw [setKeyRecord_get]
  by_cases e : j = k
  · subst e
    by_cases f : d = c
    · subst f
      simp
    · have ne : (c : Nat) ≠ d := fun h => f (Fin.ext h.symm)
      simp [f, Vector.getElem_set_ne, ne]
  · simp [e]

theorem setContact_state (s : State) (k j : KeyId) (c : ContactId) (x : Contact) :
    ((s.setContact k c x).key.records[j]).state = (s.key.records[j]).state ∧
    ((s.setContact k c x).key.records[j]).travel = (s.key.records[j]).travel := by
  unfold State.setContact
  rw [setKeyRecord_get]
  split
  · next e => exact e ▸ ⟨rfl, rfl⟩
  · exact ⟨rfl, rfl⟩

/-! ### Counts that go down, and the shortage they may end -/

/-- The Starved Wheel List does not fill, and ENGINE_SHORTAGE goes absent when it empties (R102, R110). -/
structure Eases (s t : State) : Prop where
  stays : s.eng.starved = [] → t.eng.starved = []
  shortage : ShortageEases s t
  faults : t.tab.faultConfiguration = s.tab.faultConfiguration

theorem Eases.refl (s : State) : Eases s s :=
  ⟨fun e => e, by unfold ShortageEases; rw [if_neg fun c => c.1 c.2], rfl⟩

theorem withoutCondition_congr {s t : State} (k : FaultKind) (flt : t.flt = s.flt)
    (faults : t.tab.faultConfiguration = s.tab.faultConfiguration) :
    (t.withoutCondition k).flt = (s.withoutCondition k).flt := by
  simp only [State.withoutCondition, State.setRecord, State.record, State.faultMode, State.setFlt_flt, flt, faults]

theorem Eases.trans {s t u : State} (a : Eases s t) (b : Eases t u) : Eases s u := by
  refine ⟨fun e => b.stays (a.stays e), ?_, b.faults.trans a.faults⟩
  have first := a.shortage
  have second := b.shortage
  unfold ShortageEases at first second ⊢
  by_cases empty : s.eng.starved = []
  · rw [if_neg fun c => c.1 empty]
    rw [if_neg fun c => c.1 (a.stays empty)] at second
    rw [if_neg fun c => c.1 empty] at first
    rw [second, first]
  · by_cases emptied : t.eng.starved = []
    · rw [if_neg fun c => c.1 emptied] at second
      rw [if_pos ⟨empty, emptied⟩] at first
      rw [if_pos ⟨empty, b.stays emptied⟩, second, first]
    · rw [if_neg fun c => emptied c.2] at first
      by_cases now : u.eng.starved = []
      · rw [if_pos ⟨emptied, now⟩] at second
        rw [if_pos ⟨empty, now⟩, second]
        exact withoutCondition_congr _ first a.faults
      · rw [if_neg fun c => now c.2] at second
        rw [if_neg fun c => now c.2, second, first]

/-- What leaves the Engine Cache and the Fault Unit alone. -/
theorem Eases.of_frame {l : List Block} {s t : State} (f : Frame l s t) (tab : Block.tab ∉ l) (eng : Block.eng ∉ l)
    (flt : Block.flt ∉ l) : Eases s t := by
  refine ⟨fun e => by rw [f.eng eng, e], ?_, by rw [f.tab tab]⟩
  unfold ShortageEases
  rw [f.eng eng, f.flt flt, if_neg fun c => c.1 c.2]

theorem demandDown_starved (c : EngineCache) (w : Wheel) (e : c.starved = []) : (c.demandDown w).starved = [] := by
  unfold EngineCache.demandDown EngineCache.wouldIdle
  split
  · split
    · rw [e]
      exact e
    · exact e
  · simp [e]

theorem setEngEasing_eases (s : State) (c : EngineCache) (stays : s.eng.starved = [] → c.starved = []) :
    Eases s (s.setEngEasing c) := by
  have tab : (s.setEngEasing c).tab = s.tab := (s.setEngEasing_frame c).tab (by decide)
  have eng : (s.setEngEasing c).eng = c := by
    unfold State.setEngEasing
    dsimp only
    split
    · exact (State.conditionAbsent_frame _ _).eng (by decide)
    · rfl
  refine ⟨fun e => by rw [eng]; exact stays e, ?_, by rw [tab]⟩
  unfold ShortageEases
  rw [eng]
  unfold State.setEngEasing
  dsimp only
  by_cases empties : s.eng.starved ≠ [] ∧ c.starved = []
  · rw [if_pos (by simpa using empties), if_pos empties, State.conditionAbsent_eq_withoutCondition]
    exact withoutCondition_congr _ rfl rfl
  · rw [if_neg (by simpa using empties), if_neg empties]
    rfl

theorem countDown_eases (s : State) (row : BusRow) (w : Wheel) : Eases s (s.countDown row w) := by
  have bus : ∀ b, Eases s (s.setBus b) :=
    fun b => .of_frame (Frame.setBus (l := [.bus]) (by decide) s b) (by decide) (by decide) (by decide)
  unfold State.countDown
  dsimp only
  split
  · exact .refl s
  · split
    · exact (bus _).trans (setEngEasing_eases _ _ (demandDown_starved _ w))
    · exact bus _

theorem countOf_setCount (b : BusMatrix) (row row' : BusRow) (w w' : Wheel) (n d : Nat) :
    (b.setCount row w n d).countOf row' w' = if row' = row ∧ w' = w then n else b.countOf row' w' := by
  unfold BusMatrix.countOf BusMatrix.setCount
  by_cases e : row' = row
  · subst e
    by_cases f : w' = w
    · subst f
      simp
    · have ne : (w : Nat) ≠ w' := fun h => f (Fin.ext h.symm)
      simp [f, Vector.getElem_set_ne, ne]
  · have ne : (row : Nat) ≠ row' := fun h => e (Fin.ext h.symm)
    simp [e, Vector.getElem_set_ne, ne]

/-- A count that goes down: its own falls by one, and no other count or click changes. -/
theorem countDown_bus (s : State) (row : BusRow) (w : Wheel) :
    (∀ row' w', (s.countDown row w).bus.countOf row' w'
      = s.bus.countOf row' w' - if row' = row ∧ w' = w then 1 else 0) ∧
    (s.countDown row w).bus.clicks = s.bus.clicks := by
  unfold State.countDown
  dsimp only
  split
  · next zero =>
    refine ⟨fun row' w' => ?_, rfl⟩
    split
    · next e => rw [e.1, e.2, zero]
    · rfl
  · have counts : ∀ row' w', (s.bus.setCount row w (s.bus.countOf row w - 1) (s.bus.demand[w] - 1)).countOf row' w'
        = s.bus.countOf row' w' - if row' = row ∧ w' = w then 1 else 0 := by
      intro row' w'
      rw [countOf_setCount]
      split
      · next e => rw [e.1, e.2]
      · rfl
    split
    · rw [(State.setEngEasing_frame _ _).bus (by decide)]
      exact ⟨counts, rfl⟩
    · exact ⟨counts, rfl⟩

/-! ### One contact that opens (R70) -/

/-- From s to t the contacts of a list have opened, in that order, and their counts, clicks and demand have
followed (R70, R77, R88). -/
structure ContactsOpened (l : List (KeyId × ContactId)) (s t : State) : Prop where
  contact : ∀ k c, t.contact k c = if (k, c) ∈ l then .opened else s.contact k c
  state : ∀ k : KeyId, (t.key.records[k]).state = (s.key.records[k]).state ∧
    (t.key.records[k]).travel = (s.key.records[k]).travel
  counts : ∀ row w, t.bus.countOf row w = s.bus.countOf row w - s.openingCount l row w
  clicks : t.bus.clicks = clicksWith s.bus.clicks (s.openingClicks l)
  eases : Eases s t

theorem applyOpen_opened (k : KeyId) (c : ContactId) (s : State) :
    ContactsOpened [(k, c)] s (s.applyOpen k c) := by
  cases e : s.contact k c with
  | opened =>
    have go : s.applyOpen k c = s := by rw [State.applyOpen, e]
    rw [go]
    refine ⟨fun j d => ?_, fun _ => ⟨rfl, rfl⟩, fun row w => by simp [State.openingCount, e],
      by simp [State.openingClicks, e, clicksWith], .refl s⟩
    split
    · next m =>
      obtain ⟨rfl, rfl⟩ := Prod.mk.inj (List.mem_singleton.mp m)
      exact e
    · rfl
  | closed bound =>
    have opened : ∀ j d, (s.setContact k c .opened).contact j d
        = if (j, d) ∈ [(k, c)] then .opened else s.contact j d := fun j d => by
      simp only [setContact_contact, List.mem_singleton]
    cases bound with
    | none =>
      have go : s.applyOpen k c = s.setContact k c .opened := by rw [State.applyOpen, e]
      rw [go]
      exact ⟨opened, fun j => setContact_state s k j c .opened, fun row w => by simp [State.openingCount, e]; rfl,
        by simp [State.openingClicks, e, clicksWith]; rfl,
        .of_frame (s.setContact_frame k c .opened) (by decide) (by decide) (by decide)⟩
    | some w =>
      have go : s.applyOpen k c = ((s.setContact k c .opened).countDown (contactRow (keyManual k) c) w).startClick
          (keyManual k) false := by rw [State.applyOpen, e]
      obtain ⟨counts, clicks⟩ := countDown_bus (s.setContact k c .opened) (contactRow (keyManual k) c) w
      have frame := (s.setContact k c .opened).countDown_frame (contactRow (keyManual k) c) w
      have records : (s.applyOpen k c).key.records = (s.setContact k c .opened).key.records := by
        rw [go]
        exact frame.key (by decide)
      rw [go] at records ⊢
      refine ⟨fun j d => ?_, fun j => ?_, fun row' w' => ?_, ?_, ?_⟩
      · rw [State.contact, records]
        exact opened j d
      · rw [records]
        exact setContact_state s k j c .opened
      · show BusMatrix.countOf (State.bus (State.countDown _ _ _)) row' w' = _
        rw [counts]
        refine congrArg (s.bus.countOf row' w' - ·) ?_
        by_cases hit : row' = contactRow (keyManual k) c ∧ w' = w
        · obtain ⟨rfl, rfl⟩ := hit
          simp [State.openingCount, e]
        · have miss : ¬ (contactRow (keyManual k) c = row' ∧ w = w') := fun h => hit ⟨h.1.symm, h.2.symm⟩
          simp [State.openingCount, e, hit, miss]
      · rw [startClick_clicks, clicks, frame.tick (by decide)]
        simp [State.openingClicks, e]
        rfl
      · exact ((Eases.of_frame (s.setContact_frame k c .opened) (by decide) (by decide) (by decide)).trans
          (countDown_eases _ _ _)).trans
            (.of_frame (State.startClick_frame _ _ _) (by decide) (by decide) (by decide))

/-! ### Several contacts that open -/

theorem openingCount_congr {s t : State} {l : List (KeyId × ContactId)}
    (e : ∀ p ∈ l, t.contact p.1 p.2 = s.contact p.1 p.2) (row : BusRow) (w : Wheel) :
    t.openingCount l row w = s.openingCount l row w := by
  unfold State.openingCount
  exact congrArg List.length (List.filter_congr fun p m => by rw [e p m])

theorem openingClicks_congr {s t : State} {l : List (KeyId × ContactId)}
    (e : ∀ p ∈ l, t.contact p.1 p.2 = s.contact p.1 p.2) (tick : t.seq.tickCount = s.seq.tickCount) :
    t.openingClicks l = s.openingClicks l := by
  unfold State.openingClicks
  rw [tick]
  exact congrArg _ (List.filter_congr fun p m => by rw [e p m])

theorem openingCount_append (s : State) (a b : List (KeyId × ContactId)) (row : BusRow) (w : Wheel) :
    s.openingCount (a ++ b) row w = s.openingCount a row w + s.openingCount b row w := by
  simp [State.openingCount]

theorem openingClicks_append (s : State) (a b : List (KeyId × ContactId)) :
    s.openingClicks (a ++ b) = s.openingClicks a ++ s.openingClicks b := by
  simp [State.openingClicks]

/-- Contacts opened in two goes, of two lists that share none. -/
theorem ContactsOpened.append {a b : List (KeyId × ContactId)} {s t u : State} (x : ContactsOpened a s t)
    (y : ContactsOpened b t u) (tick : t.seq.tickCount = s.seq.tickCount) (apart : ∀ p ∈ b, p ∉ a) :
    ContactsOpened (a ++ b) s u := by
  have same : ∀ p ∈ b, t.contact p.1 p.2 = s.contact p.1 p.2 := fun p m => by
    rw [x.contact, if_neg (apart p m)]
  refine ⟨fun k c => ?_, fun k => ⟨(y.state k).1.trans (x.state k).1, (y.state k).2.trans (x.state k).2⟩,
    fun row w => ?_, ?_, x.eases.trans y.eases⟩
  · rw [y.contact, x.contact]
    by_cases h : (k, c) ∈ b <;> simp [h]
  · rw [y.counts, x.counts, openingCount_congr same, openingCount_append, Nat.sub_sub]
  · rw [y.clicks, x.clicks, openingClicks_congr same tick, openingClicks_append, clicksWith_append]

/-- Some contacts are opened one after another. -/
def openAll (l : List (KeyId × ContactId)) (s : State) : State := l.foldl (fun s p => s.applyOpen p.1 p.2) s

theorem openAll_opened {l : List (KeyId × ContactId)} (once : l.Nodup) :
    ∀ s, ContactsOpened l s (openAll l s) := by
  induction l with
  | nil =>
    exact fun s => ⟨fun _ _ => rfl, fun _ => ⟨rfl, rfl⟩, fun _ _ => rfl, rfl, .refl s⟩
  | cons p l ih =>
    intro s
    obtain ⟨new, rest⟩ := List.nodup_cons.mp once
    exact (applyOpen_opened p.1 p.2 s).append (ih rest _) ((s.applyOpen_frame p.1 p.2).tick (by decide))
      fun q m h => new ((List.mem_singleton.mp h : q = p) ▸ m)

/-- The contacts of a manual in the order of a release: keys in index order, contacts in contact order (R55). -/
def manualContacts (m : Manual) : List (KeyId × ContactId) :=
  (manualKeys m).flatMap (fun k => (contactsOf k).map (fun c => (k, c)))

theorem mem_manualKeys {m : Manual} {k : KeyId} : k ∈ manualKeys m ↔ keyManual k = m := by
  simp [manualKeys]

theorem mem_manualContacts {m : Manual} {k : KeyId} {c : ContactId} :
    (k, c) ∈ manualContacts m ↔ keyManual k = m ∧ c ∈ contactsOf k := by
  simp [manualContacts, mem_manualKeys]

theorem contactsOf_nodup (k : KeyId) : (contactsOf k).Nodup := by
  unfold contactsOf
  split <;> decide

theorem manualContacts_nodup (m : Manual) : (manualContacts m).Nodup := by
  refine List.nodup_flatMap.mpr ⟨fun k _ => (contactsOf_nodup k).map fun a b e => (Prod.mk.inj e).2, ?_⟩
  refine ((List.nodup_finRange 147).filter _).imp fun {j k} ne => ?_
  rintro ⟨i, c⟩ hj hk
  simp only [List.mem_map, Prod.mk.injEq] at hj hk
  obtain ⟨_, _, rfl, _⟩ := hj
  obtain ⟨_, _, rfl, _⟩ := hk
  exact ne rfl

theorem openKeys_eq_openAll (m : Manual) (s : State) :
    (manualKeys m).foldl (fun s k => s.openKey k) s = openAll (manualContacts m) s := by
  simp only [openAll, manualContacts, List.foldl_flatMap, List.foldl_map, State.openKey]

/-- Only closed contacts count or click when they open. -/
theorem openings_manual (s : State) (m : Manual) :
    (∀ row w, s.openingCount (s.openings [m]) row w = s.openingCount (manualContacts m) row w) ∧
    s.openingClicks (s.openings [m]) = s.openingClicks (manualContacts m) := by
  have closed : s.openings [m] = (manualContacts m).filter (fun p => s.contact p.1 p.2 != .opened) := by
    simp [State.openings, manualContacts, State.keyContacts, List.filter_flatMap, List.filter_map,
      Function.comp_def]
  rw [closed]
  constructor
  · intro row w
    rw [State.openingCount, List.filter_filter, State.openingCount]
    refine congrArg List.length (List.filter_congr fun p _ => ?_)
    cases s.contact p.1 p.2 <;> simp
  · rw [State.openingClicks, List.filter_filter, State.openingClicks]
    refine congrArg _ (List.filter_congr fun p _ => ?_)
    cases s.contact p.1 p.2 <;> simp

/-! ### Manuals that are released (R55) -/

theorem foldl_setKeyState (st : KeyState) (j : KeyId) (ks : List KeyId) : ∀ s : State,
    (ks.foldl (fun s k => s.setKeyState k st) s).key.records[j]
      = if j ∈ ks then { s.key.records[j] with state := st } else s.key.records[j] := by
  induction ks with
  | nil => exact fun _ => rfl
  | cons k ks ih =>
    intro s
    rw [List.foldl_cons, ih, State.setKeyState, setKeyRecord_get]
    by_cases a : j = k
    · subst a
      simp
    · simp [a]

/-- From s to t some manuals have been released: what R55 says of their keys, of the other keys, of the schedule,
the busses, the clicks, the percussion envelope (R58, R140) and the shortage (R110). -/
structure ManualsReleased (ms : List Manual) (s t : State) : Prop where
  state : ∀ k, keyManual k ∈ ms → t.keyState k = .up
  contact : ∀ k c, keyManual k ∈ ms → t.contact k c = if c ∈ contactsOf k then .opened else s.contact k c
  kept : ∀ k : KeyId, keyManual k ∉ ms → t.key.records[k] = s.key.records[k]
  travel : ∀ k : KeyId, (t.key.records[k]).travel = (s.key.records[k]).travel
  schedule : t.seq.schedule = s.seq.schedule.filter (fun x => !ms.contains (keyManual x.key))
  counts : ∀ row w, t.bus.countOf row w = s.bus.countOf row w - s.openingCount (s.openings ms) row w
  clicks : t.bus.clicks = clicksWith s.bus.clicks (s.openingClicks (s.openings ms))
  prc : t.prc = if .upper ∈ ms ∧ s.manualUp .upper = false then s.prc.rearmed else s.prc
  eases : Eases s t

theorem manualsReleased_nil (s : State) : ManualsReleased [] s s :=
  ⟨nofun, nofun, fun _ _ => rfl, fun _ => rfl, (List.filter_eq_self.mpr fun _ _ => rfl).symm, fun _ _ => rfl, rfl,
    rfl, .refl s⟩

/-- The keys of a manual have lost their entries in the schedule: the first step of its release (R55). -/
def withoutEntries (m : Manual) (s : State) : State :=
  s.setSeq { s.seq with schedule := s.seq.schedule.filter (fun x => keyManual x.key != m) }

/-- Then their contacts have opened (R55). -/
def openedManual (m : Manual) (s : State) : State := openAll (manualContacts m) (withoutEntries m s)

theorem releaseManual_eq (m : Manual) (s : State) : s.releaseManual m =
    if m = .upper ∧ s.manualUp m = false then ((openedManual m s).makeUp m).manualFullyUp
    else (openedManual m s).makeUp m := by
  unfold State.releaseManual
  dsimp only
  rw [openKeys_eq_openAll]
  rfl

theorem withoutEntries_frame (m : Manual) (s : State) : Frame [.seq] s (withoutEntries m s) :=
  Frame.setSeq s _ (.inl (by decide)) (.inr rfl)

theorem openedManual_opened (m : Manual) (s : State) :
    ContactsOpened (manualContacts m) (withoutEntries m s) (openedManual m s) :=
  openAll_opened (manualContacts_nodup m) _

theorem openedManual_frame (m : Manual) (s : State) :
    Frame [.key, .bus, .eng, .flt] (withoutEntries m s) (openedManual m s) :=
  Frame.foldl (f := fun (s : State) (p : KeyId × ContactId) => s.applyOpen p.1 p.2)
    (fun s p => s.applyOpen_frame p.1 p.2) _ _

/-- The release of one manual (R55). -/
theorem releaseManual_released (m : Manual) (s : State) : ManualsReleased [m] s (s.releaseManual m) := by
  have opened := openedManual_opened m s
  have opening := openedManual_frame m s
  have making := (openedManual m s).makeUp_frame m
  have ending : Frame [.prc] ((openedManual m s).makeUp m) (s.releaseManual m) := by
    rw [releaseManual_eq]
    split
    · exact State.manualFullyUp_frame _
    · exact Frame.refl _ _
  have record : ∀ k : KeyId, (s.releaseManual m).key.records[k] = if keyManual k = m then
      { (openedManual m s).key.records[k] with state := .up }
      else (openedManual m s).key.records[k] := fun k => by
    rw [ending.key (by decide), State.makeUp, foldl_setKeyState]
    simp only [mem_manualKeys]
  have contact : ∀ k d, (s.releaseManual m).contact k d = (openedManual m s).contact k d := fun k d => by
    rw [State.contact, record, State.contact]
    split <;> rfl
  have bus : (s.releaseManual m).bus = (openedManual m s).bus :=
    (ending.bus (by decide)).trans (making.bus (by decide))
  obtain ⟨count, click⟩ := openings_manual s m
  refine ⟨fun k hk => ?_, fun k d hk => ?_, fun k hk => ?_, fun k => ?_, ?_, fun row w => ?_, ?_, ?_, ?_⟩
  · rw [State.keyState, record, if_pos (List.mem_singleton.mp hk)]
  · rw [contact, opened.contact]
    simp only [mem_manualContacts, List.mem_singleton.mp hk, true_and]
    rfl
  · rw [record, if_neg fun e => hk (List.mem_singleton.mpr e)]
    have same : ∀ d, (openedManual m s).contact k d = s.contact k d := fun d => by
      rw [opened.contact, if_neg fun h => hk (List.mem_singleton.mpr (mem_manualContacts.mp h).1)]
      rfl
    obtain ⟨state, travel⟩ := opened.state k
    have contacts : ((openedManual m s).key.records[k]).contacts = (s.key.records[k]).contacts :=
      Vector.ext fun i hi => same ⟨i, hi⟩
    cases x : (openedManual m s).key.records[k]
    cases y : s.key.records[k]
    rw [x] at state travel contacts
    have y' : (withoutEntries m s).key.records[k] = _ := y
    rw [y'] at state travel
    rw [y] at contacts
    simp_all
  · rw [record]
    split <;> exact (opened.state k).2
  · rw [ending.seq (by decide), making.seq (by decide), opening.seq (by decide)]
    refine List.filter_congr fun x _ => ?_
    cases keyManual x.key <;> cases m <;> rfl
  · rw [bus, opened.counts, count]
    rfl
  · rw [bus, opened.clicks, click]
    rfl
  · have prc : ((openedManual m s).makeUp m).prc = s.prc :=
      (making.prc (by decide)).trans (opening.prc (by decide))
    rw [releaseManual_eq]
    by_cases u : m = .upper
    · subst u
      simp only [true_and, List.mem_singleton]
      split
      · rw [State.manualFullyUp, State.setPrc_prc, Percussion.fullyUp_eq_rearmed, prc]
      · exact prc
    · rw [if_neg fun h => u h.1, if_neg fun h => u (List.mem_singleton.mp h.1).symm, prc]
  · exact ((Eases.of_frame (withoutEntries_frame m s) (by decide) (by decide) (by decide)).trans opened.eases).trans
      ((Eases.of_frame making (by decide) (by decide) (by decide)).trans
        (.of_frame ending (by decide) (by decide) (by decide)))

/-- Keys that have their records have their contacts and their openings. -/
theorem openings_congr {s t : State} {ms : List Manual}
    (e : ∀ k : KeyId, keyManual k ∈ ms → t.key.records[k] = s.key.records[k]) : t.openings ms = s.openings ms := by
  unfold State.openings
  refine List.flatMap_congr fun m hm => List.flatMap_congr fun k hk => ?_
  rw [State.keyContacts, State.keyContacts]
  simp only [State.contact, e k (mem_manualKeys.mp hk ▸ hm)]

theorem mem_openings {s : State} {ms : List Manual} {p : KeyId × ContactId} (h : p ∈ s.openings ms) :
    keyManual p.1 ∈ ms := by
  simp only [State.openings, List.mem_flatMap, List.mem_map] at h
  obtain ⟨m, hm, k, hk, c, _, rfl⟩ := h
  exact mem_manualKeys.mp hk ▸ hm

/-- A release of manuals, each once (R55, R56). -/
theorem release_released {ms : List Manual} (once : ms.Nodup) : ∀ s, ManualsReleased ms s (s.release ms) := by
  induction ms with
  | nil => exact manualsReleased_nil
  | cons m ms ih =>
    intro s
    obtain ⟨new, rest⟩ := List.nodup_cons.mp once
    have x := releaseManual_released m s
    have y : ManualsReleased ms (s.releaseManual m) (s.release (m :: ms)) := ih rest _
    have tick : (s.releaseManual m).seq.tickCount = s.seq.tickCount :=
      (s.releaseManual_frame m).tick (by decide)
    have same : ∀ k : KeyId, keyManual k ∈ ms → (s.releaseManual m).key.records[k] = s.key.records[k] :=
      fun k hk => x.kept k fun h => new (List.mem_singleton.mp h ▸ hk)
    have contacts : ∀ p ∈ s.openings ms, (s.releaseManual m).contact p.1 p.2 = s.contact p.1 p.2 :=
      fun p hp => by rw [State.contact, same _ (mem_openings hp), State.contact]
    have split : s.openings (m :: ms) = s.openings [m] ++ s.openings ms := by simp [State.openings]
    refine ⟨fun k hk => ?_, fun k c hk => ?_, fun k hk => ?_, fun k => (y.travel k).trans (x.travel k), ?_,
      fun row w => ?_, ?_, ?_, x.eases.trans y.eases⟩
    · by_cases h : keyManual k ∈ ms
      · exact y.state k h
      · rw [State.keyState, y.kept k h]
        exact x.state k (List.mem_singleton.mpr ((List.mem_cons.mp hk).resolve_right h))
    · by_cases h : keyManual k ∈ ms
      · rw [y.contact k c h, State.contact, same k h, State.contact]
      · rw [State.contact, y.kept k h]
        exact x.contact k c (List.mem_singleton.mpr ((List.mem_cons.mp hk).resolve_right h))
    · rw [y.kept k fun h => hk (List.mem_cons_of_mem _ h),
        x.kept k fun h => hk (List.mem_singleton.mp h ▸ List.mem_cons_self)]
    · rw [y.schedule, x.schedule, List.filter_filter]
      refine List.filter_congr fun e _ => ?_
      simp [Bool.and_comm]
    · rw [y.counts, x.counts, split, openings_congr same, openingCount_congr contacts, openingCount_append,
        Nat.sub_sub]
    · rw [y.clicks, x.clicks, split, openings_congr same, openingClicks_congr contacts tick, openingClicks_append,
        clicksWith_append]
    · rw [y.prc, x.prc]
      by_cases u : m = .upper
      · subst u
        simp [new]
      · have up : (s.releaseManual m).manualUp .upper = s.manualUp .upper := by
          rw [State.manualUp, State.manualUp, Bool.eq_iff_iff, List.all_eq_true, List.all_eq_true]
          refine forall₂_congr fun k hk => ?_
          rw [State.keyState, x.kept k fun h => u ((List.mem_singleton.mp h).symm.trans (mem_manualKeys.mp hk)),
            State.keyState]
        have u' : ¬ Manual.upper = m := fun h => u h.symm
        simp [u', up]

namespace ManualsReleased

variable {ms : List Manual} {s t : State}

theorem released (r : ManualsReleased ms s t) : Released ms s t where
  keys m hm k hk := by
    refine ⟨r.state k (hk ▸ hm), fun c hc => by rw [r.contact k c (hk ▸ hm), if_pos hc], ?_⟩
    simp only [State.hasEntry, r.schedule, List.any_filter, List.any_eq_false]
    intro x _
    by_cases e : x.key = k
    · simp [e, hk, hm]
    · simp [e]
  counts := r.counts
  clicks := r.clicks

/-- A release changes no fault record but that of a shortage which it ends (R110). -/
theorem record (r : ManualsReleased ms s t) (k : FaultKind) : t.record k =
    if k = .engineShortage ∧ s.eng.starved ≠ [] ∧ t.eng.starved = [] then (s.record k).gone (s.faultMode k)
    else s.record k := by
  have flt := r.eases.shortage
  unfold ShortageEases at flt
  rw [State.record, flt]
  by_cases ends : s.eng.starved ≠ [] ∧ t.eng.starved = []
  · rw [if_pos ends, ← State.record, State.withoutCondition, record_setRecord]
    by_cases e : k = .engineShortage
    · rw [if_pos e, if_pos ⟨e, ends⟩, e]
    · rw [if_neg e, if_neg fun c => e c.1]
  · rw [if_neg ends, if_neg fun h => ends h.2]
    rfl

theorem noticesKept (r : ManualsReleased ms s t) : NoticesKept s t := by
  have flt := r.eases.shortage
  unfold ShortageEases at flt
  refine ⟨?_, ?_, ?_, ?_⟩ <;> rw [flt] <;> split <;> rfl

theorem summaryKept (r : ManualsReleased ms s t) (f : Frame releaseBlocks s t) : SummaryKept s t := by
  have flt := r.eases.shortage
  unfold ShortageEases at flt
  refine .of_frame f (by decide) (by decide) (by decide) (by decide) (by decide) (fun k => ?_) (fun k => ?_) ?_ ?_
  · rw [r.record]
    unfold FaultRecord.gone
    split_ifs <;> rfl
  · rw [r.record]
    unfold FaultRecord.gone
    split_ifs <;> rfl
  · rw [flt]
    split <;> rfl
  · rw [flt]
    split <;> rfl

end ManualsReleased

theorem allManuals_nodup : allManuals.Nodup := by decide

end Sys2Proof.Machine.Requests
end

section
/-!
PROOFS. What a release, CLEAR_FAULTS, PLAY and STANDBY, an occurrence at a fault record and a refused or stray
key event come to (02_requests_tables_and_commands.md 2.6, 03_keys_and_the_key_map.md 3.2,
11_faults_and_notices.md 11.2).
-/

namespace Sys2Proof.Machine.Requests

/-! ### Releases by command and by control (R36, R56) -/

theorem mem_manualsOfMask (mask : BitVec 8) (m : Manual) :
    m ∈ manualsOfMask mask.toNat ↔ mask.getLsbD m.toFin.val = true := by
  have all : m ∈ [Manual.upper, .lower, .pedal] := by cases m <;> decide
  simp [manualsOfMask, List.mem_filter, all, BitVec.getLsbD, Nat.testBit]

theorem manualsOfMask_nodup (mask : Nat) : (manualsOfMask mask).Nodup :=
  List.Nodup.filter _ (by decide)

/-- A release, told of states with the same keys, busses and entries. -/
theorem Released.congr {ms : List Manual} {s s' t t' : State} (r : Released ms s' t')
    (keys : s'.key.records = s.key.records) (bus : s'.bus = s.bus) (tick : s'.seq.tickCount = s.seq.tickCount)
    (keys' : t.key.records = t'.key.records) (schedule : t.seq.schedule = t'.seq.schedule) (bus' : t.bus = t'.bus) :
    Released ms s t := by
  have openings : s'.openings ms = s.openings ms := openings_congr fun _ _ => by rw [keys]
  have contacts : ∀ p ∈ s.openings ms, s'.contact p.1 p.2 = s.contact p.1 p.2 := fun p _ => by
    rw [State.contact, keys, State.contact]
  refine ⟨fun m hm k hk => ?_, fun row w => ?_, ?_⟩
  · simp only [State.keyState, State.contact, State.hasEntry, keys', schedule]
    exact r.keys m hm k hk
  · rw [bus', r.counts, bus, openings, openingCount_congr contacts]
  · rw [bus', r.clicks, bus, openings, openingClicks_congr contacts tick]

/-- Two states agree in every part that a release reads or touches. -/
structure SameKeys (s t : State) : Prop where
  key : t.key = s.key
  seq : t.seq = s.seq
  bus : t.bus = s.bus
  eng : t.eng = s.eng
  prc : t.prc = s.prc
  flt : t.flt = s.flt
  tab : t.tab = s.tab

/-- Settles O28. -/
theorem releasesBringKeysUp : Obligations.ReleasesBringKeysUp := by
  intro mask s ready low high named released
  have facts : ∀ u t : State, SameKeys s u → SameKeys (u.release (manualsOfMask mask.toNat)) t → released t := by
    intro u t a b
    have r := release_released (manualsOfMask_nodup mask.toNat) u
    have none : ∀ m : Manual, ¬ named m → m ∉ manualsOfMask mask.toNat := fun m n h =>
      n ((mem_manualsOfMask mask m).mp h)
    have up : u.manualUp .upper = s.manualUp .upper := by
      simp only [State.manualUp, State.keyState, a.key]
    refine ⟨Released.congr r.released (by rw [a.key]) a.bus (by rw [a.seq]) (by rw [b.key]) (by rw [b.seq]) b.bus,
      mem_manualsOfMask mask, fun k n => ?_, fun k => ?_, ?_, ?_, ?_⟩
    · rw [b.key, r.kept k (none _ n), a.key]
    · rw [b.key, r.travel k, a.key]
    · rw [b.seq, r.schedule, a.seq]
      refine List.filter_congr fun x _ => ?_
      have m := mem_manualsOfMask mask (keyManual x.key)
      rw [← List.contains_iff_mem] at m
      rw [Bool.eq_iff_iff.mpr m]
    · rw [b.prc, r.prc, a.prc, up]
      unfold Percussion.rearmed
      by_cases n : named .upper ∧ s.manualUp .upper = false
      · rw [if_pos ⟨(mem_manualsOfMask mask _).mpr n.1, n.2⟩]
        by_cases off : s.prc.envelope = .off
        · rw [if_pos off, if_neg fun h => h.2.2 off]
        · rw [if_neg off, if_pos ⟨n.1, n.2, off⟩]
      · rw [if_neg fun h => n ⟨(mem_manualsOfMask mask _).mp h.1, h.2⟩, if_neg fun h => n ⟨h.1, h.2.1⟩]
    · have e := r.eases.shortage
      unfold ShortageEases at e ⊢
      rw [b.flt, b.eng, e, a.eng]
      split
      · exact withoutCondition_congr _ a.flt (by rw [a.tab])
      · exact a.flt
  have same : ∀ {u : State}, SameKeys u u := ⟨rfl, rfl, rfl, rfl, rfl, rfl, rfl⟩
  have inside : inRange mask.toNat 1 7 = true := inRange_iff.mpr ⟨low, high⟩
  refine ⟨⟨s.release (manualsOfMask mask.toNat), ?_, facts s _ same same, s.release_frame _⟩,
    fun h room => ⟨_, exec_command (code := 3) rfl rfl ready room (by decide) rfl, ?_⟩⟩
  · show whenRunning (State.controlMove 72 mask.toNat) s = _
    rw [whenRunning_running ready.1, State.controlMove, if_neg ready.2]
    rw [show controlOk 72 mask.toNat = true from inside]
    rfl
  · rw [show actAllKeysUp mask.toNat [] (inHand h s) = answered ((inHand h s).release (manualsOfMask mask.toNat))
      from if_pos inside]
    refine ⟨facts (inHand h s) _ ⟨rfl, rfl, rfl, rfl, rfl, rfl, rfl⟩ ⟨rfl, rfl, rfl, rfl, rfl, rfl, rfl⟩,
      replied_reply _ _ _ ?_, ?_⟩
    · exact ((State.release_frame _ (inHand h s)).replies (by decide)).trans (List.append_nil _).symm
    · exact frame_reply _ _ _ ((State.release_frame _ _).mono (by decide)) (by decide) (by decide)

end Sys2Proof.Machine.Requests
end

section
namespace Sys2Proof.Machine.Requests

/-! ### CLEAR_FAULTS (R177, R184) -/

/-- A fault record after CLEAR_FAULTS (R184). -/
def FaultRecord.cleared (mode : FaultMode) (r : FaultRecord) : FaultRecord :=
  if r.present then r else { r with flag := false, held := if mode = .latched then none else r.held }

theorem clearRecord_eq (k : FaultKind) (s : State) :
    s.clearRecord k = s.setRecord k (FaultRecord.cleared (s.faultMode k) (s.record k)) := by
  unfold State.clearRecord FaultRecord.cleared
  dsimp only
  split
  · exact (s.setRecord_self k).symm
  · rfl

theorem mem_allKinds (k : FaultKind) : k ∈ allKinds := by cases k <;> decide

/-- After CLEAR_FAULTS on some records, each once, these are cleared and the others are as they were. -/
theorem clearRecords_record {kinds : List FaultKind} (once : kinds.Nodup) : ∀ (s : State) (k : FaultKind),
    (kinds.foldl (fun s k => s.clearRecord k) s).record k
      = if k ∈ kinds then FaultRecord.cleared (s.faultMode k) (s.record k) else s.record k := by
  induction kinds with
  | nil => exact fun _ _ => rfl
  | cons j kinds ih =>
    intro s k
    obtain ⟨new, rest⟩ := List.nodup_cons.mp once
    have mode : (s.clearRecord j).faultMode k = s.faultMode k := by
      rw [clearRecord_eq]
      rfl
    rw [List.foldl_cons, ih rest, mode, clearRecord_eq, record_setRecord]
    by_cases e : k = j
    · subst e
      simp [new]
    · simp [e]

theorem clearRecords_noticesKept (kinds : List FaultKind) : ∀ s : State,
    NoticesKept s (kinds.foldl (fun s k => s.clearRecord k) s) := by
  induction kinds with
  | nil => exact NoticesKept.refl
  | cons j kinds ih =>
    intro s
    have first : NoticesKept s (s.clearRecord j) := by
      rw [clearRecord_eq]
      exact setRecord_noticesKept _ _ _
    exact first.trans (ih _)

/-- The last two steps of CLEAR_FAULTS: the limit flags, and the signals that follow (R177, R186). -/
def clearFlags (s : State) : State := s.clearLimitFlags.refresh

theorem clearFlags_frame (s : State) : Frame [.out, .hold, .mute, .flt] s (clearFlags s) :=
  (s.clearLimitFlags_frame.mono (by decide)).trans ((State.refresh_frame _).mono (by decide))

theorem clearFlags_noticesKept (s : State) : NoticesKept s (clearFlags s) := ⟨rfl, rfl, rfl, rfl⟩

theorem clearFlags_record (s : State) (k : FaultKind) : (clearFlags s).record k = s.record k := rfl

theorem clearFlags_out (s : State) :
    (clearFlags s).out = { s.out with
      limiters := (clearFlags s).out.limiters, muteRequest := (clearFlags s).out.muteRequest } ∧
    ∀ o : OutputId, (clearFlags s).out.limiters[o] = { s.out.limiters[o] with flag := false } :=
  ⟨rfl, fun _ => Vector.getElem_map _ _⟩

/-- CLEAR_FAULTS at the Fault Unit before its change is counted (R184). -/
def clearing (s : State) : State := clearFlags (allKinds.foldl (fun s k => s.clearRecord k) s)

theorem clearFaults_eq (s : State) : s.clearFaults = s.asEvent clearing := rfl

theorem clearRecords_frame (s : State) : Frame [.flt] s (allKinds.foldl (fun s k => s.clearRecord k) s) :=
  Frame.foldl (fun s k => s.clearRecord_frame k) _ s

theorem clearing_frame (s : State) : Frame [.out, .hold, .mute, .flt] s (clearing s) :=
  ((clearRecords_frame s).mono (by decide)).trans (clearFlags_frame _)

theorem clearing_noticesKept (s : State) : NoticesKept s (clearing s) :=
  (clearRecords_noticesKept allKinds s).trans (clearFlags_noticesKept _)

theorem clearing_record (s : State) (k : FaultKind) :
    (clearing s).record k = FaultRecord.cleared (s.faultMode k) (s.record k) := by
  rw [clearing, clearFlags_record, clearRecords_record (by decide), if_pos (mem_allKinds k)]

theorem clearing_out (s : State) :
    (clearing s).out
      = { s.out with limiters := (clearing s).out.limiters, muteRequest := (clearing s).out.muteRequest } ∧
    ∀ o : OutputId, (clearing s).out.limiters[o] = { s.out.limiters[o] with flag := false } := by
  rw [← (clearRecords_frame s).allOut (by decide) (by decide)]
  exact clearFlags_out _

theorem clearing_signalled (s : State) : (clearing s).Signalled := refresh_signalled _

/-- Settles O29. -/
theorem faultsAreCleared : Obligations.FaultsAreCleared := by
  intro h s ready room
  have kept := clearing_noticesKept (inHand h s)
  have frame := clearing_frame (inHand h s)
  have state : (clearing (inHand h s)).req.opState ≠ .initializing := by
    rw [frame.req (by decide)]
    exact ready.2
  obtain ⟨notices, queue, counted⟩ := asEvent_counted kept
    (frame.allLnk (by decide) (by decide) (by decide)) state
  have event := asEvent_notices clearing (inHand h s)
  have out : (State.asEvent clearing (inHand h s)).out = (clearing (inHand h s)).out :=
    event.allOut (by decide) (by decide)
  have record := asEvent_record clearing (inHand h s)
  have silence := asEvent_silence clearing (inHand h s)
  have signals := (asEvent_summaryKept clearing (inHand h s)).signalled (clearing_signalled _)
  have whole := (inHand h s).clearFaults_frame
  have go := exec_command (c := .clearFaults h 0 []) (code := 4) rfl rfl ready room (by decide) rfl
  rw [show actClearFaults (0 : BitVec 8).toNat [] (inHand h s) = answered (inHand h s).clearFaults from rfl] at go
  rw [clearFaults_eq] at go whole
  generalize State.asEvent clearing (inHand h s) = t at *
  refine ⟨_, notices, go, fun k => ?_, fun o => ?_, ?_, ?_, ?_, replied_reply _ _ _ queue,
    ChangeCounted.of_kept counted (noticePlace_inHand h s) ⟨rfl, rfl, rfl, rfl⟩ rfl,
    frame_reply _ _ _ (whole.mono (by decide)) (by decide) (by decide)⟩
  · exact (record k).trans (clearing_record _ k)
  · show t.out.limiters[o] = _
    rw [out]
    exact (clearing_out (inHand h s)).2 o
  · show t.out = { s.out with limiters := t.out.limiters, muteRequest := t.out.muteRequest }
    rw [out]
    exact (clearing_out (inHand h s)).1
  · exact silence.trans kept.silence
  · exact ⟨signals.hold, signals.mute, signals.fault, signals.warn⟩

end Sys2Proof.Machine.Requests
end

section
namespace Sys2Proof.Machine.Requests

/-! ### PLAY and STANDBY (R27, R35, R170) -/

/-- From s to t the operating state has become o and is signalled; the change is not yet counted (R27). -/
structure StateEntered (o : OpState) (s t : State) : Prop where
  req : t.req = { s.req with opState := o }
  mute : t.out.muteRequest = ((o != .playing) || s.inForce .mute)
  signals : s.Signalled → t.key.hold = s.key.hold ∧ t.flt.fault = s.flt.fault ∧ t.flt.warn = s.flt.warn
  records : t.flt.records = s.flt.records
  silence : t.flt.silence = s.flt.silence

/-- The operating state with the signals that follow it. -/
def enter (o : OpState) (s : State) : State := (s.setReq { s.req with opState := o }).refresh

theorem enter_entered (o : OpState) (s : State) : StateEntered o s (enter o s) :=
  ⟨rfl, rfl, fun h => ⟨h.hold.symm, h.fault.symm, h.warn.symm⟩, rfl, rfl⟩

/-- A change of the operating state: it is signalled and counted as one change (R27, R189). -/
theorem changeOpState_counted {o : OpState} (ready : o ≠ .initializing) (s : State) : ∃ notices,
    StateEntered o s (s.changeOpState o) ∧
    (s.changeOpState o).lnk.replies = s.lnk.replies ++ notices ∧
    ChangeCounted (s.noticePlace = true) notices s (s.changeOpState o) := by
  have event := asEvent_notices (enter o) s
  have kept := asEvent_summaryKept (enter o) s
  obtain ⟨notices, queue, counted⟩ := asEvent_counted (f := enter o) (s := s) ⟨rfl, rfl, rfl, rfl⟩ rfl ready
  obtain ⟨req, mute, signals, records, silence⟩ := enter_entered o s
  exact ⟨notices, ⟨(event.req (by decide)).trans req, kept.mute.trans mute,
    fun h => ⟨kept.hold.trans (signals h).1, kept.fault.trans (signals h).2.1, kept.warn.trans (signals h).2.2⟩,
    (asEvent_records (enter o) s).trans records, (asEvent_silence (enter o) s).trans silence⟩, queue, counted⟩

theorem actStandby_playing {s : State} (o : s.req.opState = .playing) (rest : List Word) :
    actStandby 0 rest s = answered ((s.release allManuals).changeOpState .standby) := by
  rw [actStandby, if_neg (not_not.mpr rfl), if_pos o]

/-- STANDBY's release and change of state, told of the state the release gave (R27, R88). -/
theorem standby_of_released {h : Head} {s u : State} (r : ManualsReleased allManuals (inHand h s) u)
    (frame : Frame releaseBlocks (inHand h s) u) : ∃ notices,
    let t := reply h .ok 2 [] (u.changeOpState .standby)
    t.req = { s.req with opState := .standby } ∧ t.out.muteRequest = true ∧
    Released allManuals s t ∧ Replied h .ok 2 [] notices s t ∧
    ChangeCounted (s.NoticeRoom h.sent) notices s t ∧
    Frame [.replies, .place, .req, .hold, .mute, .flt, .key, .seq, .bus, .eng, .prc] s t := by
  obtain ⟨notices, ⟨req, mute, _, _, _⟩, queue, counted⟩ := changeOpState_counted (o := .standby) (by decide) u
  have change := u.changeOpState_frame .standby
  have lnk := frame.allLnk (by decide) (by decide) (by decide)
  have place : u.noticePlace = (inHand h s).noticePlace := by rw [State.noticePlace, lnk, State.noticePlace]
  refine ⟨notices, ?_, mute, Released.congr r.released rfl rfl rfl (change.key (by decide))
    (change.seq (by decide)) (change.bus (by decide)), replied_reply _ _ _ ?_,
    ChangeCounted.of_kept counted ?_
      ((NoticesKept.of_flt (s := s) (t := inHand h s) rfl).trans r.noticesKept) (r.summaryKept frame).noticeState,
    frame_reply _ _ _ ((frame.mono (by decide)).trans (change.mono (by decide))) (by decide) (by decide)⟩
  · rw [frame.req (by decide)] at req
    exact req
  · rw [lnk] at queue
    exact queue
  · rw [place]
    exact noticePlace_inHand h s

/-- Settles O27. -/
theorem playAndStandby : Obligations.PlayAndStandby := by
  intro h s ready room
  have play := exec_command (c := .play h 0 []) (code := 1) rfl rfl ready room (by decide) rfl
  have standby := exec_command (c := .standby h 0 []) (code := 2) rfl rfl ready room (by decide) rfl
  have idle : ∀ echo, Replied h .ok echo [] [] s (reply h .ok echo [] (inHand h s)) ∧
      Frame [.replies, .place] s (reply h .ok echo [] (inHand h s)) := fun _ =>
    ⟨replied_reply _ _ _ (by simp), frame_reply _ _ _ (Frame.refl _ _) (by decide) (by decide)⟩
  refine ⟨fun o => ?_, fun o cursor => ?_, fun o => ?_, fun o => ?_⟩
  · rw [show actPlay (0 : BitVec 8).toNat [] (inHand h s) = answered (inHand h s) by simp [actPlay, o]] at play
    exact ⟨_, play, idle 1⟩
  · obtain ⟨notices, ⟨req, mute, signals, records, silence⟩, queue, counted⟩ :=
      changeOpState_counted (o := .playing) (by decide) (inHand h s)
    rw [show actPlay (0 : BitVec 8).toNat [] (inHand h s) = answered ((inHand h s).changeOpState .playing) by
      simp [actPlay, o, cursor]] at play
    exact ⟨_, notices, play, req, mute, fun x => signals ⟨x.hold, x.mute, x.fault, x.warn⟩, records, silence,
      replied_reply _ _ _ queue,
      ChangeCounted.of_kept counted (noticePlace_inHand h s) ⟨rfl, rfl, rfl, rfl⟩ rfl,
      frame_reply _ _ _ (((inHand h s).changeOpState_frame .playing).mono (by decide)) (by decide) (by decide)⟩
  · rw [show actStandby (0 : BitVec 8).toNat [] (inHand h s) = answered (inHand h s) by
      simp [actStandby, o]] at standby
    exact ⟨_, standby, idle 2⟩
  · rw [show (0 : BitVec 8).toNat = 0 from rfl, actStandby_playing (s := inHand h s) o] at standby
    dsimp only [answered] at standby
    obtain ⟨notices, facts⟩ := standby_of_released (h := h)
      (release_released allManuals_nodup (inHand h s)) (State.release_frame allManuals (inHand h s))
    exact ⟨_, notices, standby, facts⟩

/-! ### An occurrence at a fault record (R181, R182) -/

/-- The state with the record as its mode leaves it at an occurrence; no signal has followed and no key has been
released (R181). -/
def withOccurrence (k : FaultKind) (s : State) : State :=
  s.setRecord k ((s.record k).occurred (s.faultMode k) (s.faultAction k))

theorem withOccurrence_record (k j : FaultKind) (s : State) : (withOccurrence k s).record j
    = if j = k then (s.record j).occurred (s.faultMode j) (s.faultAction j) else s.record j := by
  rw [withOccurrence, record_setRecord]
  by_cases e : j = k
  · rw [if_pos e, if_pos e, e]
  · rw [if_neg e, if_neg e]

/-- What an occurrence does: nothing in DISABLED; else the signals follow, and where it opens an episode with
action RELEASE, every key is released (R181, R182). -/
theorem occur_cases (k : FaultKind) (s : State) :
    (¬ s.WouldRelease k ∧ s.faultMode k = .disabled ∧ s.occur k = s ∧ withOccurrence k s = s) ∨
    (¬ s.WouldRelease k ∧ s.occur k = (withOccurrence k s).refresh) ∨
    (s.WouldRelease k ∧ s.occur k = (withOccurrence k s).refresh.release allManuals) := by
  have eq := s.occur_eq k
  unfold State.WouldRelease withOccurrence
  cases m : s.faultMode k with
  | disabled =>
    rw [m] at eq
    exact .inl ⟨fun w => by simp [FaultMode.holds] at w, rfl, eq, s.setRecord_self k⟩
  | reportOnly =>
    rw [m] at eq
    exact .inr (.inl ⟨fun w => by simp [FaultMode.holds] at w, eq⟩)
  | latched =>
    rw [m] at eq
    dsimp only at eq
    by_cases held : (s.record k).held = none
    · by_cases a : s.faultAction k = .release
      · refine .inr (.inr ⟨⟨rfl, held, a⟩, ?_⟩)
        rw [eq, if_pos held, State.takeForce, if_pos a]
      · refine .inr (.inl ⟨fun w => a w.2.2, ?_⟩)
        rw [eq, if_pos held, State.takeForce, if_neg a]
    · refine .inr (.inl ⟨fun w => held w.2.1, ?_⟩)
      rw [eq, if_neg held]
  | autoRetry =>
    rw [m] at eq
    dsimp only at eq
    by_cases held : (s.record k).held = none
    · by_cases a : s.faultAction k = .release
      · refine .inr (.inr ⟨⟨rfl, held, a⟩, ?_⟩)
        rw [eq, if_pos held, State.takeForce, if_pos a]
      · refine .inr (.inl ⟨fun w => a w.2.2, ?_⟩)
        rw [eq, if_pos held, State.takeForce, if_neg a]
    · refine .inr (.inl ⟨fun w => held w.2.1, ?_⟩)
      rw [eq, if_neg held]

end Sys2Proof.Machine.Requests
end

section
namespace Sys2Proof.Machine.Requests

/-- From s to t a kind has occurred, told without the notice that may follow (R181, R182). -/
structure OccurrenceApplied (k : FaultKind) (s t : State) : Prop where
  records : ∀ j, t.record j =
    let q := if j = k then (s.record j).occurred (s.faultMode j) (s.faultAction j) else s.record j
    if j = .engineShortage ∧ s.eng.starved ≠ [] ∧ t.eng.starved = [] then q.gone (s.faultMode j) else q
  released : s.WouldRelease k → Released allManuals s t
  kept : ¬ s.WouldRelease k → Frame refreshBlocks s t
  frame : Frame occurBlocks s t
  notices : NoticesKept s t
  signals : s.Signalled → t.Signalled

/-- The record as its mode leaves it, and the signals after it. -/
theorem withOccurrence_refresh (k : FaultKind) (s : State) :
    Frame refreshBlocks s (withOccurrence k s).refresh ∧ NoticesKept s (withOccurrence k s).refresh ∧
    ∀ j, (withOccurrence k s).refresh.record j
      = if j = k then (s.record j).occurred (s.faultMode j) (s.faultAction j) else s.record j :=
  ⟨((s.setRecord_frame k _).mono (by decide)).trans (withOccurrence k s).refresh_frame,
    (setRecord_noticesKept _ _ _).trans (refresh_noticesKept _), fun j => withOccurrence_record k j s⟩

/-- The occurrence that releases the keys, told of the state the release gave (R182). -/
theorem occurrence_of_released {k : FaultKind} {s t : State} (would : s.WouldRelease k)
    (r : ManualsReleased allManuals (withOccurrence k s).refresh t)
    (frame : Frame releaseBlocks (withOccurrence k s).refresh t) : OccurrenceApplied k s t := by
  obtain ⟨before, notices, records⟩ := withOccurrence_refresh k s
  refine ⟨fun j => ?_, fun _ => ?_, fun n => absurd would n,
    (before.mono (by decide)).trans (frame.mono (by decide)), notices.trans r.noticesKept,
    fun _ => (r.summaryKept frame).signalled (refresh_signalled _)⟩
  · rw [r.record, records, before.eng (by decide), State.faultMode, before.tab (by decide), State.faultMode]
  · exact Released.congr r.released (by rw [before.key (by decide)]) (before.bus (by decide))
      (before.tick (by decide)) rfl rfl rfl

theorem occur_applied (k : FaultKind) (s : State) : OccurrenceApplied k s (s.occur k) := by
  obtain ⟨frame, notices, records⟩ := withOccurrence_refresh k s
  rcases occur_cases k s with ⟨not, _, go, same⟩ | ⟨not, go⟩ | ⟨would, go⟩
  · rw [go]
    refine ⟨fun j => ?_, fun w => absurd w not, fun _ => .refl _ _, .refl _ _, .refl _, id⟩
    dsimp only
    rw [if_neg (fun c => c.2.1 c.2.2), ← withOccurrence_record, same]
  · rw [go]
    refine ⟨fun j => ?_, fun w => absurd w not, fun _ => frame, frame.mono (by decide), notices,
      fun _ => refresh_signalled _⟩
    rw [records, frame.eng (by decide)]
    exact (if_neg fun c => c.2.1 c.2.2).symm
  · rw [go]
    exact occurrence_of_released would (release_released allManuals_nodup _) (State.release_frame allManuals _)

/-- An occurrence, with the notice its change of the notice state makes due (R181, R182, R189). -/
theorem asEvent_occurred (k : FaultKind) {s : State} (ready : s.req.opState ≠ .initializing) :
    Occurred k s (s.asEvent (State.occur k)) := by
  have raw := occur_applied k s
  have kept := asEvent_summaryKept (State.occur k) s
  have event := asEvent_notices (State.occur k) s
  have lnk := raw.frame.allLnk (by decide) (by decide) (by decide)
  obtain ⟨notices, queue, counted⟩ := asEvent_counted raw.notices lnk
    (by rw [raw.frame.req (by decide)]; exact ready)
  refine ⟨fun j => ?_, fun w => ⟨Released.congr (raw.released w) rfl rfl rfl ?_ ?_ ?_, ?_⟩, fun w => ?_,
    (asEvent_silence _ s).trans raw.notices.silence, fun h => kept.signalled (raw.signals h), notices, queue,
    ChangeCounted.of_kept counted (noticePlace_broadcast s) (.refl s) rfl⟩
  · rw [asEvent_record, raw.records, event.eng (by decide)]
  · rw [event.key (by decide)]
  · rw [event.seq (by decide)]
  · rw [event.bus (by decide)]
  · exact (raw.frame.mono (by decide)).trans (event.mono (by decide))
  · exact ((raw.kept w).mono (by decide)).trans (event.mono (by decide))

end Sys2Proof.Machine.Requests
end

section
/-!
PROOFS. Key events that reach no key (06_keys_and_contacts.md 6.1, 6.2).
-/

namespace Sys2Proof.Machine.Requests

theorem raiseEvent_reported (k : FaultKind) (s : State) : EventReported k s (s.raiseEvent k) := by
  unfold State.raiseEvent
  exact ⟨fun i => if_pos i, fun n => by rw [if_neg n]; exact asEvent_occurred k n⟩

/-- The sum of the stray counter is zero exactly when it wraps (R47). -/
theorem strayWraps_iff (n : BitVec 8) : n + 1 = 0 ↔ n = 255 := by
  constructor
  · intro e
    bv_omega
  · rintro rfl
    rfl

/-- A key event with the event bit either way (R44). -/
theorem exec_keyEvent {source : BitVec 2} {raw : BitVec 7} {travel : BitVec 6} {c : Instr} {s : State}
    (run : s.Running) (e : c = .keyDown source raw travel ∨ c = .keyUp source raw travel) :
    ∃ down, exec c s = .next (s.keyEvent source raw down travel) := by
  rcases e with rfl | rfl
  · exact ⟨true, whenRunning_running run⟩
  · exact ⟨false, whenRunning_running run⟩

theorem keyEvent_refused {source : BitVec 2} {raw : BitVec 7} {travel : BitVec 6} {s : State} (down : Bool)
    (o : s.req.opState ≠ .playing) : s.keyEvent source raw down travel = s.refuseKey := if_neg o

theorem keyEvent_unmapped {source : BitVec 2} {raw : BitVec 7} {travel : BitVec 6} {s : State} (down : Bool)
    (o : s.req.opState = .playing) (m : s.mappedKey source raw = none) :
    s.keyEvent source raw down travel = s.strayEvent := by
  rw [State.keyEvent, if_pos o, m]

theorem keyEvent_down {source : BitVec 2} {raw : BitVec 7} {travel : BitVec 6} {k : KeyId} {s : State}
    (o : s.req.opState = .playing) (m : s.mappedKey source raw = some k) :
    s.keyEvent source raw true travel = s.keyDownOn k travel := by
  rw [State.keyEvent, if_pos o, m]
  rfl

/-- Settles O35. -/
theorem keysAreRefusedOrStray : Obligations.KeysAreRefusedOrStray := by
  intro source raw travel s run
  refine ⟨fun c e => ?_, fun k o m hold => ?_⟩
  · obtain ⟨down, go⟩ := exec_keyEvent run e
    refine ⟨fun o => by rw [go, keyEvent_refused down o]; rfl, fun o m => ?_⟩
    rw [go, keyEvent_unmapped down o m]
    refine ⟨fun few => ?_, fun all => ⟨_, rfl, ?_⟩⟩
    · exact congrArg _ (if_neg fun wraps => few ((strayWraps_iff _).mp wraps))
    · rw [State.strayEvent, State.count, State.setCnt_cnt, if_pos ((strayWraps_iff _).mpr all)]
      exact raiseEvent_reported _ _
  · rw [show exec (.keyDown source raw travel) s = _ from whenRunning_running run, keyEvent_down o m,
      State.keyDownOn, if_pos hold]
    rfl

end Sys2Proof.Machine.Requests
end

section
/-!
PROOFS. Fault Configuration entries: what a reconfigured record becomes and which reconfigurations release the
keys (11_faults_and_notices.md 11.4).
-/

namespace Sys2Proof.Machine.Requests

/-! ### What becomes of one record -/

/-- From s to t the record of k has become r and the signals may have followed; nothing else has changed. -/
structure RecordBecomes (k : FaultKind) (r : FaultRecord) (s t : State) : Prop where
  frame : Frame refreshBlocks s t
  notices : NoticesKept s t
  records : ∀ j, t.record j = if j = k then r else s.record j

/-- From s to t the record of k has become r and every key has been released; the release itself may have made
ENGINE_SHORTAGE go absent. -/
structure RecordReleases (k : FaultKind) (r : FaultRecord) (s t : State) : Prop where
  frame : Frame occurBlocks s t
  notices : NoticesKept s t
  record : k ≠ .engineShortage → t.record k = r
  released : Released allManuals s t

/-- The two of them, told apart by whether the keys are released. -/
structure RecordStep (release : Prop) (k : FaultKind) (r : FaultRecord) (s t : State) : Prop where
  keeps : ¬ release → RecordBecomes k r s t
  releases : release → RecordReleases k r s t

section
variable {k : FaultKind} {r r' : FaultRecord} {release : Prop} {s t u : State}

theorem recordBecomes_same (e : s.record k = r) : RecordBecomes k r s s :=
  ⟨.refl _ _, .refl _, fun j => by
    by_cases c : j = k
    · rw [if_pos c, c, e]
    · rw [if_neg c]⟩

theorem recordBecomes_setRecord (k : FaultKind) (r : FaultRecord) (s : State) :
    RecordBecomes k r s (s.setRecord k r) :=
  ⟨(s.setRecord_frame k r).mono (by decide), setRecord_noticesKept _ _ _, fun j => record_setRecord s k j r⟩

theorem RecordBecomes.record (a : RecordBecomes k r s t) : t.record k = r := by
  rw [a.records, if_pos rfl]

theorem RecordBecomes.trans (a : RecordBecomes k r s t) (b : RecordBecomes k r' t u) : RecordBecomes k r' s u :=
  ⟨a.frame.trans b.frame, a.notices.trans b.notices, fun j => by
    rw [b.records, a.records]
    split <;> rfl⟩

theorem RecordBecomes.refresh (a : RecordBecomes k r s t) : RecordBecomes k r s t.refresh :=
  ⟨a.frame.trans t.refresh_frame, a.notices.trans (refresh_noticesKept t), a.records⟩

theorem RecordReleases.after (a : RecordBecomes k r' s t) (b : RecordReleases k r t u) : RecordReleases k r s u :=
  ⟨(a.frame.mono (by decide)).trans b.frame, a.notices.trans b.notices, b.record,
    Released.congr b.released (a.frame.key (by decide)) (a.frame.bus (by decide)) (a.frame.tick (by decide)) rfl rfl
      rfl⟩

theorem RecordReleases.refresh (a : RecordReleases k r s t) : RecordReleases k r s t.refresh :=
  ⟨a.frame.trans (t.refresh_frame.mono (by decide)), a.notices.trans (refresh_noticesKept t), a.record,
    Released.congr a.released rfl rfl rfl (t.refresh_frame.key (by decide)) (t.refresh_frame.seq (by decide))
      (t.refresh_frame.bus (by decide))⟩

theorem RecordStep.after (a : RecordBecomes k r' s t) (b : RecordStep release k r t u) : RecordStep release k r s u :=
  ⟨fun n => a.trans (b.keeps n), fun y => .after a (b.releases y)⟩

theorem RecordStep.refresh (a : RecordStep release k r s t) : RecordStep release k r s t.refresh :=
  ⟨fun n => (a.keeps n).refresh, fun y => (a.releases y).refresh⟩

theorem RecordStep.of_becomes (no : ¬ release) (a : RecordBecomes k r s t) : RecordStep release k r s t :=
  ⟨fun _ => a, fun y => absurd y no⟩

theorem RecordStep.congr {other : Prop} (a : RecordStep release k r s t) (e : release ↔ other) :
    RecordStep other k r s t :=
  ⟨fun n => a.keeps (n ∘ e.mp), fun y => a.releases (e.mpr y)⟩

theorem RecordStep.noticesKept (a : RecordStep release k r s t) : NoticesKept s t := by
  by_cases y : release
  · exact (a.releases y).notices
  · exact (a.keeps y).notices

end

/-- An action that takes force at a record: RELEASE releases every key (R182). -/
theorem takeForce_step (k : FaultKind) (a : Action) (s : State) :
    RecordStep (a = .release) k (s.record k) s (s.takeForce a) := by
  have signals : RecordBecomes k (s.record k) s s.refresh := (recordBecomes_same rfl).refresh
  refine ⟨fun n => ?_, fun y => ?_⟩
  · rw [State.takeForce, if_neg n]
    exact signals
  · rw [State.takeForce, if_pos y]
    have r := release_released allManuals_nodup s.refresh
    exact .after signals ⟨(State.release_frame allManuals s.refresh).mono (by decide), r.noticesKept,
      fun other => by rw [r.record, if_neg fun c => other c.1]; rfl, r.released⟩

/-- An occurrence at a record whose mode holds and that holds no action (R181). -/
theorem occur_step {k : FaultKind} {s : State} (mode : (s.faultMode k).holds = true)
    (free : (s.record k).held = none) : RecordStep (s.faultAction k = .release) k
      ((s.record k).occurred (s.faultMode k) (s.faultAction k)) s (s.occur k) := by
  have x := occur_applied k s
  refine ⟨fun n => ?_, fun y => ?_⟩
  · have kept := x.kept fun w => n w.2.2
    refine ⟨kept, x.notices, fun j => ?_⟩
    rw [x.records, kept.eng (by decide), if_neg fun c => c.2.1 c.2.2]
    by_cases e : j = k
    · rw [if_pos e, if_pos e, e]
    · rw [if_neg e, if_neg e]
  · refine ⟨x.frame, x.notices, fun other => ?_, x.released ⟨mode, free, y⟩⟩
    rw [x.records, if_neg fun c => other c.1, if_pos rfl]

/-! ### The steps of a reconfiguration (R185) -/

/-- An episode starts when the mode changes: it is a mode that holds, and the condition stands with none held. -/
def ModeStarts (mode : FaultMode) (r : FaultRecord) : Prop :=
  (mode = .latched ∨ mode = .autoRetry) ∧ r.held = none ∧ r.present = true

/-- A record after its mode has changed (R185, steps 1 to 4). -/
def FaultRecord.underMode (mode : FaultMode) (action : Action) (r : FaultRecord) : FaultRecord :=
  match mode, r.held with
  | .reportOnly, _ => { r with held := none, retry := Timer.stopped }
  | .disabled, _ => { r with held := none, retry := Timer.stopped, flag := false }
  | .latched, some _ => { r with retry := Timer.stopped }
  | .autoRetry, some _ => { r with retry := if r.present then Timer.stopped else Timer.start }
  | _, none => if r.present then { r with flag := true, held := some action, retry := Timer.stopped } else r

/-- A record after its action has changed (R185, step 5). -/
def FaultRecord.underAction (action : Action) (r : FaultRecord) : FaultRecord :=
  { r with held := if r.held = none then none else some action }

theorem occurred_of_free {mode : FaultMode} {action : Action} {r : FaultRecord} (holds : mode.holds = true)
    (free : r.held = none) :
    r.occurred mode action = { r with flag := true, held := some action, retry := Timer.stopped } := by
  cases mode with
  | disabled => exact absurd holds (by decide)
  | reportOnly => exact absurd holds (by decide)
  | latched => simp [FaultRecord.occurred, free]
  | autoRetry => simp [FaultRecord.occurred, free]

/-- The mode step where no action is held: an episode opens if the condition stands (R185, step 4). -/
theorem modeStart_step {k : FaultKind} {s : State} (holds : s.faultMode k = .latched ∨ s.faultMode k = .autoRetry)
    (free : (s.record k).held = none) :
    RecordStep (ModeStarts (s.faultMode k) (s.record k) ∧ s.faultAction k = .release) k
      (FaultRecord.underMode (s.faultMode k) (s.faultAction k) (s.record k)) s
      (if (s.record k).present then s.occur k else s) := by
  have under : FaultRecord.underMode (s.faultMode k) (s.faultAction k) (s.record k)
      = if (s.record k).present then
          { s.record k with flag := true, held := some (s.faultAction k), retry := Timer.stopped }
        else s.record k := by
    rcases holds with e | e <;> rw [e, FaultRecord.underMode.eq_def, free]
  have mode : (s.faultMode k).holds = true := by
    rcases holds with e | e <;> rw [e] <;> rfl
  rw [under]
  by_cases p : (s.record k).present = true
  · rw [if_pos p, if_pos p, ← occurred_of_free mode free]
    exact (occur_step mode free).congr ⟨fun a => ⟨⟨holds, free, p⟩, a⟩, And.right⟩
  · rw [if_neg p, if_neg p]
    exact .of_becomes (fun c => p c.1.2.2) (recordBecomes_same rfl)

/-- Steps 1 to 4 (R185). -/
theorem reconfigureMode_step (k : FaultKind) (s : State) :
    RecordStep (ModeStarts (s.faultMode k) (s.record k) ∧ s.faultAction k = .release) k
      (FaultRecord.underMode (s.faultMode k) (s.faultAction k) (s.record k)) s (s.reconfigureMode k) := by
  have start := @modeStart_step k s
  unfold State.reconfigureMode
  unfold ModeStarts FaultRecord.underMode at start ⊢
  dsimp only at start ⊢
  cases mode : s.faultMode k with
  | reportOnly => exact .of_becomes (by simp) (recordBecomes_setRecord _ _ _)
  | disabled => exact .of_becomes (by simp) (recordBecomes_setRecord _ _ _)
  | latched =>
    rw [mode] at start
    cases held : (s.record k).held with
    | none => simpa only [held] using start (.inl rfl) held
    | some a => exact .of_becomes (fun c => nomatch c.1.2.1) (recordBecomes_setRecord _ _ _)
  | autoRetry =>
    rw [mode] at start
    cases held : (s.record k).held with
    | none => simpa only [held] using start (.inr rfl) held
    | some a => exact .of_becomes (fun c => nomatch c.1.2.1) (recordBecomes_setRecord _ _ _)

/-- Step 5 (R185). -/
theorem reconfigureAction_step (k : FaultKind) (s : State) :
    RecordStep ((s.record k).held ≠ none ∧ s.faultAction k = .release) k
      (FaultRecord.underAction (s.faultAction k) (s.record k)) s (s.reconfigureAction k) := by
  unfold State.reconfigureAction FaultRecord.underAction
  dsimp only
  cases held : (s.record k).held with
  | none =>
    refine .of_becomes (fun c => c.1 rfl) (recordBecomes_same ?_)
    rw [if_pos rfl, ← held]
  | some a =>
    have set := recordBecomes_setRecord k { s.record k with held := some (s.faultAction k) } s
    have force := takeForce_step k (s.faultAction k)
      (s.setRecord k { s.record k with held := some (s.faultAction k) })
    rw [set.record] at force
    simpa using RecordStep.after set force

/-! ### A written Fault Configuration entry (R185) -/

/-- The record of k after its entry has become w (R185). -/
def reconfigured (k : FaultKind) (w : Word) (s : State) : FaultRecord :=
  let r := s.record k
  let moded := if s.faultMode k = faultModeOfWord w then r
    else FaultRecord.underMode (faultModeOfWord w) (faultActionOfWord w) r
  if r.held.isSome ∧ s.faultAction k ≠ faultActionOfWord w then FaultRecord.underAction (faultActionOfWord w) moded
  else moded

/-- Whether the entry w releases the keys: an episode opens under it, or one that stays takes it as its action
(R182, R185). -/
def EntryReleases (k : FaultKind) (w : Word) (s : State) : Prop :=
  let r := s.record k
  let mode := faultModeOfWord w
  let changed := s.faultMode k ≠ mode
  faultActionOfWord w = .release ∧
    ((changed ∧ (mode = .latched ∨ mode = .autoRetry) ∧ r.held = none ∧ r.present = true) ∨
      (r.held.isSome ∧ s.faultAction k ≠ faultActionOfWord w ∧
        ¬ (changed ∧ (mode = .reportOnly ∨ mode = .disabled))))

theorem setFaultEntry_mode (k : FaultKind) (w : Word) (s : State) :
    (s.setFaultEntry k w).faultMode k = faultModeOfWord w := by
  simp [State.faultMode, State.setFaultEntry]

theorem setFaultEntry_action (k : FaultKind) (w : Word) (s : State) :
    (s.setFaultEntry k w).faultAction k = faultActionOfWord w := by
  simp [State.faultAction, State.setFaultEntry]

/-- An action that is held stays held unless the new mode holds none (R185). -/
theorem underMode_held {mode : FaultMode} {action : Action} {r : FaultRecord} (held : r.held.isSome) :
    (FaultRecord.underMode mode action r).held ≠ none ↔ ¬ (mode = .reportOnly ∨ mode = .disabled) := by
  obtain ⟨a, e⟩ := Option.isSome_iff_exists.mp held
  unfold FaultRecord.underMode
  rw [e]
  cases mode <;> simp

/-- A written Fault Configuration entry: its record follows (R185). -/
theorem reconfigure_step (k : FaultKind) (w : Word) (s : State) : RecordStep (EntryReleases k w s) k
    (reconfigured k w s) (s.setFaultEntry k w) (s.reconfigure k w) := by
  have mode := reconfigureMode_step k (s.setFaultEntry k w)
  have action := reconfigureAction_step k (s.setFaultEntry k w)
  have next := reconfigureAction_step k ((s.setFaultEntry k w).reconfigureMode k)
  have same : (s.setFaultEntry k w).record k = s.record k := rfl
  rw [setFaultEntry_mode, setFaultEntry_action, same] at mode
  rw [setFaultEntry_action, same] at action
  unfold State.reconfigure reconfigured EntryReleases
  dsimp only
  refine RecordStep.refresh ?_
  by_cases held : (s.record k).held.isSome = true ∧ s.faultAction k ≠ faultActionOfWord w
  · rw [if_pos held, if_pos held]
    obtain ⟨some, differs⟩ := held
    have free : (s.record k).held ≠ none := Option.isSome_iff_ne_none.mp some
    by_cases changed : s.faultMode k = faultModeOfWord w
    · rw [if_pos changed, if_pos changed]
      exact action.congr (by simp [changed, some, differs, free, and_comm])
    · rw [if_neg changed, if_neg changed]
      have first := mode.keeps fun c => free c.1.2.1
      have kept : ((s.setFaultEntry k w).reconfigureMode k).faultAction k = faultActionOfWord w := by
        rw [State.faultAction, first.frame.tab (by decide), ← State.faultAction, setFaultEntry_action]
      rw [first.record, kept, underMode_held some] at next
      exact (RecordStep.after first next).congr (by simp [changed, some, differs, free, and_comm])
  · rw [if_neg held, if_neg held]
    have none : ∀ p, ¬ ((s.record k).held.isSome = true ∧ s.faultAction k ≠ faultActionOfWord w ∧ p) :=
      fun p c => held ⟨c.1, c.2.1⟩
    by_cases changed : s.faultMode k = faultModeOfWord w
    · rw [if_pos changed, if_pos changed]
      refine .of_becomes (fun c => ?_) (recordBecomes_same same)
      exact c.2.elim (fun x => x.1 changed) (none _)
    · rw [if_neg changed, if_neg changed]
      refine mode.congr ⟨fun c => ⟨c.2, .inl ⟨changed, c.1⟩⟩, fun c => ⟨?_, c.1⟩⟩
      exact (c.2.resolve_right (none _)).2

/-- Written Fault Configuration entries count no change yet, and touch nothing but the tables, the Fault Unit and
what a release touches. -/
theorem writeFaults_kept (es : List (Nat × List Word)) (s : State) :
    NoticesKept s (s.writeList .faultConfiguration es) ∧
    Frame (.tab :: occurBlocks) s (s.writeList .faultConfiguration es) := by
  induction es generalizing s with
  | nil => exact ⟨.refl _, .refl _ _⟩
  | cons e es ih =>
    have entry : NoticesKept s (s.reconfigure (faultKindOf e.1) (e.2.headD 0)) :=
      (NoticesKept.of_flt (s := s) (t := s.setFaultEntry (faultKindOf e.1) (e.2.headD 0)) rfl).trans
        (reconfigure_step _ _ s).noticesKept
    obtain ⟨notices, frame⟩ := ih (s.reconfigure (faultKindOf e.1) (e.2.headD 0))
    exact ⟨entry.trans notices, (s.reconfigure_frame _ _).trans frame⟩

/-- After them the signals follow. -/
theorem writeFaults_signalled (es : List (Nat × List Word)) (s : State) (some : es ≠ [] ∨ s.Signalled) :
    (s.writeList .faultConfiguration es).Signalled := by
  induction es generalizing s with
  | nil => exact some.resolve_left (· rfl)
  | cons e es ih => exact ih _ (.inr (refresh_signalled _))

/-- A WRITE of one entry is its reconfiguration. -/
theorem writeList_oneFault {payload : List Word} {k : FaultKind} (index : payload.getD 1 0 = wordOf k.toFin.val)
    (one : requestLow payload = 1) (s : State) :
    s.writeList .faultConfiguration (writtenEntries .faultConfiguration payload)
      = s.reconfigure k (payload.getD 2 0) := by
  have small : (wordOf k.toFin.val).toNat = k.toFin.val := by
    rw [wordOf, BitVec.toNat_ofNat, Nat.mod_eq_of_lt (by omega)]
  have data : ((payload.drop 2).take 1).headD 0 = payload.getD 2 0 := by
    simp [List.headD_eq_head?_getD, List.head?_take]
  simp only [writtenEntries, dataEntries, one, index, small]
  show State.reconfigure (faultKindOf k.toFin.val) (((payload.drop 2).take 1).headD 0) s = _
  rw [faultKindOf_kind, data]

/-- What R185 says of the record after one written entry, mode by mode. -/
theorem reconfigured_cases (k : FaultKind) (w : Word) (s : State) :
    let r := s.record k
    let mode := faultModeOfWord w
    let action := faultActionOfWord w
    let changed := s.faultMode k ≠ mode
    let renewed := if r.held.isSome ∧ s.faultAction k ≠ action then some action else r.held
    let starts := changed ∧ (mode = .latched ∨ mode = .autoRetry) ∧ r.held = none ∧ r.present = true
    (¬ changed → reconfigured k w s = { r with held := renewed }) ∧
    (changed → mode = .reportOnly → reconfigured k w s = { r with held := none, retry := Timer.stopped }) ∧
    (changed → mode = .disabled →
      reconfigured k w s = { r with held := none, retry := Timer.stopped, flag := false }) ∧
    (starts → reconfigured k w s = { r with flag := true, held := some action, retry := Timer.stopped }) ∧
    (changed → mode = .latched → r.held ≠ none →
      reconfigured k w s = { r with held := renewed, retry := Timer.stopped }) ∧
    (changed → mode = .autoRetry → r.held ≠ none → reconfigured k w s = { r with
      held := renewed, retry := if r.present then Timer.stopped else Timer.start }) ∧
    (changed → mode = .latched ∨ mode = .autoRetry → r.held = none → r.present = false →
      reconfigured k w s = r) := by
  unfold reconfigured
  dsimp only
  cases held : (s.record k).held with
  | none =>
    have idle : ¬ ((none : Option Action).isSome = true ∧ s.faultAction k ≠ faultActionOfWord w) := nofun
    rw [if_neg idle, if_neg idle]
    refine ⟨fun same => ?_, fun c m => ?_, fun c m => ?_, fun ⟨c, m, _, p⟩ => ?_, fun _ _ n => absurd rfl n,
      fun _ _ n => absurd rfl n, fun c m _ p => ?_⟩
    · rw [if_pos (not_not.mp same), ← held]
    · rw [if_neg c, m]
      rfl
    · rw [if_neg c, m]
      rfl
    · rw [if_neg c]
      rcases m with m | m <;> simp [FaultRecord.underMode, m, held, p]
    · rw [if_neg c]
      rcases m with m | m <;> simp [FaultRecord.underMode, m, held, p]
  | some a =>
    refine ⟨fun same => ?_, fun c m => ?_, fun c m => ?_, fun ⟨_, _, n, _⟩ => (Option.some_ne_none a n).elim,
      fun c m _ => ?_, fun c m _ => ?_, fun _ _ n => (Option.some_ne_none a n).elim⟩
    · rw [if_pos (not_not.mp same)]
      unfold FaultRecord.underAction
      rw [held]
      split
      · rw [if_neg (Option.some_ne_none a)]
      · rw [← held]
    · rw [if_neg c, m]
      unfold FaultRecord.underAction FaultRecord.underMode
      split <;> rfl
    · rw [if_neg c, m]
      unfold FaultRecord.underAction FaultRecord.underMode
      split <;> rfl
    · rw [if_neg c, m]
      unfold FaultRecord.underAction FaultRecord.underMode
      rw [held]
      split <;> simp
    · rw [if_neg c, m]
      unfold FaultRecord.underAction FaultRecord.underMode
      rw [held]
      split <;> simp

theorem writeEntries_faults (es : List (Nat × List Word)) (s : State) :
    s.writeEntries .faultConfiguration es = s.asEvent (State.writeList .faultConfiguration es) := rfl

/-- What one written entry comes to, told of the state in which the WRITE has been answered. -/
theorem recordStep_answered {release : Prop} {k : FaultKind} {r : FaultRecord} {s u v t : State}
    (step : RecordStep release k r u v) (before : Frame [.place, .tab] s u) (records : ∀ j, u.record j = s.record j)
    (after : Frame [.replies, .place, .flt] v t) (answered : ∀ j, t.record j = v.record j) :
    (¬ release → (∀ j, j ≠ k → t.record j = s.record j) ∧
      Frame [.replies, .place, .tab, .flt, .hold, .mute] s t) ∧
    (release → Released allManuals s t) ∧
    (¬ release ∨ k ≠ .engineShortage → t.record k = r) := by
  refine ⟨fun n => ⟨fun j other => ?_, ?_⟩, fun y => ?_, fun plain => ?_⟩
  · rw [answered, (step.keeps n).records, if_neg other, records]
  · exact ((before.mono (by decide)).trans ((step.keeps n).frame.mono (by decide))).trans (after.mono (by decide))
  · exact Released.congr (step.releases y).released (before.key (by decide)) (before.bus (by decide))
      (before.tick (by decide)) (after.key (by decide)) (after.seq (by decide)) (after.bus (by decide))
  · rw [answered]
    by_cases y : release
    · exact (step.releases y).record (plain.resolve_left (not_not.mpr y))
    · exact (step.keeps y).record

/-- Settles O23. -/
theorem faultConfigurationIsWritten : Obligations.FaultConfigurationIsWritten := by
  intro c h payload s ready room e passes
  have go := exec_writePasses e ready room passes
  have ten : requestHigh payload = 10 := tableOfId_eq_some passes.id
  have writes := writeFaults_kept (writtenEntries .faultConfiguration payload) (inHand h s)
  have some : writtenEntries .faultConfiguration payload ≠ [] := fun none =>
    passes.count (by simpa [dataEntries] using none)
  have signalled := writeFaults_signalled _ (inHand h s) (.inl some)
  have event := asEvent_notices (State.writeList .faultConfiguration
    (writtenEntries .faultConfiguration payload)) (inHand h s)
  have summary := asEvent_summaryKept (State.writeList .faultConfiguration
    (writtenEntries .faultConfiguration payload)) (inHand h s)
  obtain ⟨kept, frame⟩ := writes
  obtain ⟨notices, queue, counted⟩ := asEvent_counted kept
    (frame.allLnk (by decide) (by decide) (by decide)) (by rw [frame.req (by decide)]; exact ready.2)
  rw [ten, writeEntries_faults] at go
  refine ⟨_, notices, go, entriesStored_reply passes, replied_reply _ _ _ queue,
    (reply_summaryKept _ _ _ _ _).signalled (summary.signalled signalled),
    ChangeCounted.of_kept counted (noticePlace_inHand h s) (.of_flt rfl) rfl,
    frame_reply _ _ _ ((frame.mono (by decide)).trans (event.mono (by decide))) (by decide) (by decide),
    fun k index one => ?_⟩
  have step := reconfigure_step k (payload.getD 2 0) (inHand h s)
  rw [← writeList_oneFault index one] at step
  obtain ⟨keeps, releases, record⟩ := recordStep_answered (s := s) step
    ((inHand_frame h s).mono (by decide) |>.trans (Frame.setTab (by decide) _ _)) (fun _ => rfl)
    ((event.mono (by decide)).trans ((reply_frame h .ok 10 [] _).mono (by decide)))
    (fun j => asEvent_record _ (inHand h s) j)
  refine ⟨keeps, releases, fun plain => ?_⟩
  rw [record plain]
  exact reconfigured_cases k _ s

end Sys2Proof.Machine.Requests
end

section
/-!
PROOFS. FLUSH_ENGINES: what becomes of the engines of the LRU List (06_wheel_engines.md).
-/

namespace Sys2Proof.Machine.Requests

/-- An engine that has been flushed: writing back if it was dirty, FREE if not (R111). -/
def Engine.flushed (r : Engine) : Engine :=
  if r.dirty then { r with state := .writingBack, settle := 0, next := none }
  else { r with state := .free, wheel := none, dirty := false, settle := 0, next := none }

/-- From c to d the engines of l, each with a wheel, have been flushed in this order (R111). -/
structure Flushed (l : List EngineId) (c d : EngineCache) : Prop where
  lru : d.lru = c.lru
  starved : d.starved = c.starved
  free : d.free = c.free ++ l.filter (fun e => !(c.engines[e]).dirty)
  queue : d.queue = c.queue ++ (l.filter (fun e => (c.engines[e]).dirty)).map
    (fun e => ⟨e, .writeBack, ((c.engines[e]).wheel).getD 0⟩)
  engine : ∀ e : EngineId, d.engines[e] = if e ∈ l then Engine.flushed c.engines[e] else c.engines[e]
  unbinds : ∀ e ∈ l, ∀ w, (c.engines[e]).wheel = some w → (d.store[w]).bound = none
  unbound : ∀ w : Wheel, (c.store[w]).bound = none → (d.store[w]).bound = none

theorem setEngine_get (c : EngineCache) (e i : EngineId) (r : Engine) :
    (c.setEngine e r).engines[i] = if i = e then r else c.engines[i] := by
  by_cases same : i = e
  · subst same
    simp [EngineCache.setEngine]
  · have ne : (e : Nat) ≠ i := fun h => same (Fin.ext h.symm)
    simp [EngineCache.setEngine, same, Vector.getElem_set_ne, ne]

theorem bindWheel_none (c : EngineCache) (v w : Wheel) :
    ((c.bindWheel v none).store[w]).bound = if w = v then none else (c.store[w]).bound := by
  by_cases same : w = v
  · subst same
    simp [EngineCache.bindWheel]
  · have ne : (v : Nat) ≠ w := fun h => same (Fin.ext h.symm)
    simp [EngineCache.bindWheel, same, Vector.getElem_set_ne, ne]

/-- One engine is flushed (R111). -/
theorem flushOne_flushed {c : EngineCache} {e : EngineId} {v : Wheel} (keeps : (c.engines[e]).wheel = some v) :
    Flushed [e] c (c.flushOne e) := by
  have unbinds : ∀ w : Wheel, (c.engines[e]).wheel = some w → ((c.bindWheel v none).store[w]).bound = none :=
    fun w h => by rw [bindWheel_none, if_pos (Option.some.inj (h.symm.trans keeps))]
  have unbound : ∀ w : Wheel, (c.store[w]).bound = none → ((c.bindWheel v none).store[w]).bound = none :=
    fun w h => by rw [bindWheel_none, h, ite_self]
  have flush : c.flushOne e = if (c.engines[e]).dirty then c.startWriteBack e v none
      else (c.bindWheel v none).freeEngine e := by
    rw [EngineCache.flushOne, keeps]
  have one : ∀ i ∈ [e], ∀ w : Wheel, (c.engines[i]).wheel = some w → ((c.bindWheel v none).store[w]).bound = none :=
    fun i m => by
      rw [List.mem_singleton.mp m]
      exact unbinds
  rw [flush]
  cases dirty : (c.engines[e]).dirty with
  | true =>
    rw [if_pos rfl]
    have all : [e].filter (fun i => (c.engines[i]).dirty) = [e] := List.filter_eq_self.mpr (by simpa using dirty)
    have nothing : [e].filter (fun i => !(c.engines[i]).dirty) = [] := List.filter_eq_nil_iff.mpr (by simpa using dirty)
    refine ⟨rfl, rfl, ?_, ?_, fun i => ?_, one, unbound⟩
    · rw [nothing]
      exact (List.append_nil _).symm
    · rw [all, List.map_singleton, keeps]
      rfl
    refine (setEngine_get (c.bindWheel v none) e i _).trans ?_
    by_cases same : i = e
    · subst same
      rw [if_pos rfl, if_pos (List.mem_singleton.mpr rfl), Engine.flushed, if_pos dirty]
    · rw [if_neg same, if_neg fun m => same (List.mem_singleton.mp m)]
      rfl
  | false =>
    rw [if_neg Bool.false_ne_true]
    have nothing : [e].filter (fun i => (c.engines[i]).dirty) = [] := List.filter_eq_nil_iff.mpr (by simpa using dirty)
    have all : [e].filter (fun i => !(c.engines[i]).dirty) = [e] := List.filter_eq_self.mpr (by simpa using dirty)
    refine ⟨rfl, rfl, ?_, ?_, fun i => ?_, one, unbound⟩
    · rw [all]
      rfl
    · rw [nothing]
      exact (List.append_nil _).symm
    refine (setEngine_get (c.bindWheel v none) e i _).trans ?_
    by_cases same : i = e
    · subst same
      rw [if_pos rfl, if_pos (List.mem_singleton.mpr rfl), Engine.flushed, dirty, if_neg Bool.false_ne_true]
      rfl
    · rw [if_neg same, if_neg fun m => same (List.mem_singleton.mp m)]
      rfl

/-- A flush of one engine and then of others. -/
theorem Flushed.cons {e : EngineId} {l : List EngineId} {c d f : EngineCache} (a : Flushed [e] c d)
    (b : Flushed l d f) (new : e ∉ l) : Flushed (e :: l) c f := by
  have same : ∀ i ∈ l, d.engines[i] = c.engines[i] := fun i m => by
    rw [a.engine, if_neg fun h => new (by rwa [← List.mem_singleton.mp h])]
  refine ⟨b.lru.trans a.lru, b.starved.trans a.starved, ?_, ?_, fun i => ?_, fun i m w h => ?_,
    fun w h => b.unbound w (a.unbound w h)⟩
  · have rest : l.filter (fun e => !(d.engines[e]).dirty) = l.filter (fun e => !(c.engines[e]).dirty) :=
      List.filter_congr fun i m => by rw [same i m]
    rw [b.free, a.free, rest, List.append_assoc, ← List.filter_append, List.singleton_append]
  · have rest : (l.filter (fun e => (d.engines[e]).dirty)).map
        (fun e => (⟨e, .writeBack, ((d.engines[e]).wheel).getD 0⟩ : StoreRequest))
        = (l.filter (fun e => (c.engines[e]).dirty)).map (fun e => ⟨e, .writeBack, ((c.engines[e]).wheel).getD 0⟩) := by
      rw [List.filter_congr fun i m => congrArg Engine.dirty (same i m)]
      exact List.map_congr_left fun i m => by rw [same i (List.mem_of_mem_filter m)]
    rw [b.queue, a.queue, rest, List.append_assoc, ← List.map_append, ← List.filter_append, List.singleton_append]
  · rw [b.engine, a.engine]
    by_cases m : i ∈ l
    · have other : i ≠ e := fun h => new (h ▸ m)
      simp [m, other]
    · simp [m]
  · rcases List.mem_cons.mp m with rfl | m
    · exact b.unbound w (a.unbinds i (List.mem_singleton.mpr rfl) w h)
    · exact b.unbinds i m w (by rw [same i m, h])

theorem flushes_flushed {l : List EngineId} (once : l.Nodup) : ∀ c : EngineCache,
    (∀ e ∈ l, (c.engines[e]).wheel ≠ none) → Flushed l c (l.foldl EngineCache.flushOne c) := by
  induction l with
  | nil => exact fun c _ => ⟨rfl, rfl, by simp, by simp, fun _ => by simp, nofun, fun _ h => h⟩
  | cons e l ih =>
    intro c keeps
    obtain ⟨new, rest⟩ := List.nodup_cons.mp once
    obtain ⟨v, keep⟩ := Option.ne_none_iff_exists'.mp (keeps e List.mem_cons_self)
    have first := flushOne_flushed keep
    refine first.cons (ih rest _ fun i m => ?_) new
    rw [first.engine, if_neg fun h => new (by rwa [← List.mem_singleton.mp h])]
    exact keeps i (List.mem_cons_of_mem _ m)

/-- An engine stands in the LRU List once at most (R96). -/
theorem Listed.lru_nodup {c : EngineCache} (h : c.Listed) : c.lru.Nodup :=
  List.nodup_iff_count_le_one.mpr fun e => by
    rw [h.lru]
    split <;> omega

/-- The state with FLUSH_ENGINES accepted (R111, R112). -/
def flushBegun (s : State) : State :=
  ((s.setReq { s.req with inFlight := some .flushEngines }).setEng s.eng.flush).checkFlush

theorem actFlush_idle {s : State} (idle : s.req.inFlight = none) :
    actFlush (0 : BitVec 8).toNat [] s = ⟨.accepted, [], flushBegun s⟩ := by
  simp [actFlush, idle, flushBegun]

theorem flushBegun_frame (s : State) : Frame [.req, .eng] s (flushBegun s) :=
  ((Frame.setReq (by decide) s _).trans (Frame.setEng (by decide) _ _)).trans
    ((State.checkFlush_frame _).mono (by decide))

theorem flushBegun_eng (s : State) : (flushBegun s).eng = s.eng.flush := (State.checkFlush_frame _).eng (by decide)

/-- The command is in flight while a write-back without a next wheel is under way (R112). -/
theorem flushBegun_req (s : State) : (flushBegun s).req
    = if s.eng.flush.flushing then { s.req with inFlight := some .flushEngines }
      else { s.req with inFlight := none, lastResult := .done } := by
  unfold flushBegun State.checkFlush
  cases f : s.eng.flush.flushing with
  | true =>
    rw [if_neg fun c => Bool.noConfusion (f.symm.trans c.2), if_pos rfl]
    rfl
  | false =>
    rw [if_pos ⟨rfl, f⟩, if_neg Bool.false_ne_true]
    rfl

/-- Settles O31. -/
theorem enginesAreFlushed : Obligations.EnginesAreFlushed := by
  intro h s ready room idle listed keeps
  have go := exec_command (c := .flushEngines h 0 []) (code := 6) rfl rfl ready room (by decide) rfl
  have f : Flushed s.eng.lru.reverse { s.eng with lru := [] } s.eng.flush :=
    flushes_flushed (List.nodup_reverse.mpr (Listed.lru_nodup listed)) _
      fun e m => keeps e (List.mem_reverse.mp m)
  rw [actFlush_idle (s := inHand h s) idle] at go
  have frame := flushBegun_frame (inHand h s)
  have eng : (reply h .accepted 6 [] (flushBegun (inHand h s))).eng = s.eng.flush := flushBegun_eng _
  refine ⟨_, go, replied_reply _ _ _ ((frame.replies (by decide)).trans (List.append_nil _).symm),
    frame_reply _ _ _ (frame.mono (by decide)) (by decide) (by decide), ?_⟩
  rw [eng]
  refine ⟨f.lru, f.starved, f.free, f.queue, fun e n => ?_, fun e m w keep => ⟨?_, ?_⟩, flushBegun_req _⟩
  · exact (f.engine e).trans (if_neg fun m => n (List.mem_reverse.mp m))
  · exact f.unbinds e (List.mem_reverse.mpr m) w keep
  · exact (f.engine e).trans (if_pos (List.mem_reverse.mpr m))

end Sys2Proof.Machine.Requests
end

section
/-!
PROOFS. The end of INITIALIZING: the conditions that stand present are raised under the factory configuration
(02_requests_tables_and_commands.md 2.3, 11_faults_and_notices.md 11.7).
-/

namespace Sys2Proof.Machine.Requests

/-! ### Conditions raised without a release (R181, R191) -/

/-- From s to t each of some kinds whose condition is present has occurred, and no key has been released. -/
structure Raised (kinds : List FaultKind) (s t : State) : Prop where
  records : ∀ j, t.record j = if j ∈ kinds ∧ (s.record j).present = true then
      (s.record j).occurred (s.faultMode j) (s.faultAction j) else s.record j
  frame : Frame [.replies, .hold, .mute, .flt] s t
  silence : t.flt.silence = s.flt.silence
  signals : s.Signalled → t.Signalled

theorem raisePresent_absent {k : FaultKind} {s : State} (absent : (s.record k).present = false) :
    s.raisePresent k = s := by
  rw [State.raisePresent, absent, if_neg Bool.false_ne_true]

theorem raisePresent_occurred {k : FaultKind} {s : State} (ready : s.req.opState ≠ .initializing)
    (present : (s.record k).present = true) : Occurred k s (s.raisePresent k) := by
  rw [State.raisePresent, if_pos present]
  exact asEvent_occurred k ready

theorem raisePresent_raised {k : FaultKind} {s : State} (ready : s.req.opState ≠ .initializing)
    (quiet : (s.record k).present = true → ¬ s.WouldRelease k) : Raised [k] s (s.raisePresent k) := by
  cases p : (s.record k).present with
  | false =>
    rw [raisePresent_absent p]
    refine ⟨fun j => (if_neg fun c => ?_).symm, .refl _ _, rfl, id⟩
    rw [List.mem_singleton.mp c.1, p] at c
    exact Bool.false_ne_true c.2
  | true =>
    have occurred := raisePresent_occurred ready p
    have kept := occurred.kept (quiet p)
    refine ⟨fun j => ?_, kept, occurred.silence, occurred.signals⟩
    rw [occurred.records, kept.eng (by decide), if_neg fun c => c.2.1 c.2.2]
    by_cases e : j = k
    · rw [if_pos e, if_pos ⟨List.mem_singleton.mpr e, e ▸ p⟩]
    · rw [if_neg e, if_neg fun c => e (List.mem_singleton.mp c.1)]

theorem Raised.cons {k : FaultKind} {kinds : List FaultKind} {s t u : State} (a : Raised [k] s t)
    (b : Raised kinds t u) (new : k ∉ kinds) : Raised (k :: kinds) s u := by
  refine ⟨fun j => ?_, a.frame.trans b.frame, b.silence.trans a.silence, b.signals ∘ a.signals⟩
  have tab : t.tab = s.tab := a.frame.tab (by decide)
  have mode : t.faultMode j = s.faultMode j := by rw [State.faultMode, tab, State.faultMode]
  have action : t.faultAction j = s.faultAction j := by rw [State.faultAction, tab, State.faultAction]
  rw [b.records, a.records, mode, action]
  by_cases e : j = k
  · have out : j ∉ kinds := e ▸ new
    simp [e, new]
  · simp [e]

/-- The configuration of a kind lets an occurrence release the keys (R182). -/
def State.MayRelease (s : State) (k : FaultKind) : Prop := (s.faultMode k).holds = true ∧ s.faultAction k = .release

theorem mayRelease_congr {s t : State} (tab : t.tab = s.tab) {k : FaultKind} :
    State.MayRelease t k ↔ State.MayRelease s k := by
  rw [State.MayRelease, State.faultMode, State.faultAction, tab, State.MayRelease, State.faultMode, State.faultAction]

theorem raises_raised {kinds : List FaultKind} (once : kinds.Nodup) : ∀ s : State, s.req.opState ≠ .initializing →
    (∀ k ∈ kinds, ¬ State.MayRelease s k) →
    Raised kinds s (kinds.foldl (fun s k => s.raisePresent k) s) := by
  induction kinds with
  | nil => exact fun s _ _ => ⟨fun j => by simp, .refl _ _, rfl, id⟩
  | cons k kinds ih =>
    intro s ready quiet
    obtain ⟨new, rest⟩ := List.nodup_cons.mp once
    have first := raisePresent_raised (k := k) ready fun _ w => quiet k List.mem_cons_self ⟨w.1, w.2.2⟩
    refine first.cons (ih rest _ ?_ fun j m => ?_) new
    · rw [first.frame.req (by decide)]
      exact ready
    · rw [mayRelease_congr (first.frame.tab (by decide))]
      exact quiet j (List.mem_cons_of_mem _ m)

/-! ### The factory Fault Configuration (R179) -/

theorem factory_faultEntry (strap : BitVec 5) (k : FaultKind) :
    (Tables.factory strap).faultConfiguration[k.toFin] = wordOf (factoryFaults k.toFin.val) :=
  tabulate_get _ k.toFin

/-- Only LINK_LOST may release the keys at the factory. -/
theorem factory_mayRelease {s : State} {strap : BitVec 5} (tab : s.tab = Tables.factory strap) {k : FaultKind} :
    State.MayRelease s k ↔ k = .linkLost := by
  rw [State.MayRelease, State.faultMode, State.faultAction, tab, factory_faultEntry]
  cases k <;> decide

/-- The kinds behind LINK_LOST, in the order in which they are raised. -/
abbrev otherKinds : List FaultKind := allKinds.tail

/-- The conditions that stand present are raised, LINK_LOST first, under the factory configuration (R191). -/
structure AllRaised (s t : State) : Prop where
  records : ∀ k, k ≠ .engineShortage → t.record k = if (s.record k).present then
      (s.record k).occurred (s.faultMode k) (s.faultAction k) else s.record k
  quiet : (s.record .linkLost).present = false ∨ (s.record .linkLost).held ≠ none → Raised allKinds s t
  released : (s.record .linkLost).present = true → (s.record .linkLost).held = none → Released allManuals s t
  silence : t.flt.silence = s.flt.silence
  signals : s.Signalled → t.Signalled

theorem AllRaised.of_raised {s t : State} (r : Raised allKinds s t)
    (quiet : (s.record .linkLost).present = false ∨ (s.record .linkLost).held ≠ none) : AllRaised s t := by
  refine ⟨fun k _ => ?_, fun _ => r, fun p h => ?_, r.silence, r.signals⟩
  · rw [r.records]
    simp [mem_allKinds]
  · exact absurd h (quiet.resolve_left (by rw [p]; decide))

/-- LINK_LOST has been raised, and then the others, none of which may release the keys. -/
theorem AllRaised.of_parts {s t u : State} (ready : s.req.opState ≠ .initializing)
    (raise : t = s.raisePresent .linkLost) (may : State.MayRelease s .linkLost) (rest : Raised otherKinds t u) :
    AllRaised s u := by
  by_cases would : (s.record .linkLost).present = true ∧ (s.record .linkLost).held = none
  · obtain ⟨present, free⟩ := would
    have lost : Occurred .linkLost s t := raise ▸ raisePresent_occurred ready present
    obtain ⟨released, frame⟩ := lost.released ⟨may.1, free, may.2⟩
    have tab : t.tab = s.tab := frame.tab (by decide)
    refine ⟨fun k n => ?_, fun quiet => ?_, fun _ _ => ?_, rest.silence.trans lost.silence, rest.signals ∘ lost.signals⟩
    · have mode : t.faultMode k = s.faultMode k := by rw [State.faultMode, tab, State.faultMode]
      have action : t.faultAction k = s.faultAction k := by rw [State.faultAction, tab, State.faultAction]
      have first : t.record k = if k = .linkLost then (s.record k).occurred (s.faultMode k) (s.faultAction k)
          else s.record k := (lost.records k).trans (if_neg fun c => n c.1)
      rw [rest.records, first, mode, action]
      by_cases e : k = .linkLost
      · subst e
        rw [if_neg fun c => absurd c.1 (by decide), if_pos rfl, if_pos present]
      · have m : k ∈ otherKinds := (List.mem_cons.mp (mem_allKinds k)).resolve_left e
        simp only [if_neg e, m, true_and]
    · exact absurd free (quiet.resolve_left (by rw [present]; decide))
    · exact Released.congr released rfl rfl rfl (rest.frame.key (by decide)) (rest.frame.seq (by decide))
        (rest.frame.bus (by decide))
  · have quiet : (s.record .linkLost).present = false ∨ (s.record .linkLost).held ≠ none := by
      rw [← Bool.not_eq_true]
      exact not_and_or.mp would
    have lost : Raised [.linkLost] s t := raise ▸ raisePresent_raised ready fun p w => would ⟨p, w.2.1⟩
    exact .of_raised (lost.cons rest (by decide)) quiet

theorem raiseAllPresent_allRaised {s : State} {strap : BitVec 5} (tab : s.tab = Tables.factory strap)
    (ready : s.req.opState ≠ .initializing) : AllRaised s s.raiseAllPresent := by
  have first := s.raisePresent_frame .linkLost
  have parts : s.raiseAllPresent = otherKinds.foldl (fun s k => s.raisePresent k) (s.raisePresent .linkLost) := by
    have kinds : allKinds = .linkLost :: otherKinds := rfl
    rw [State.raiseAllPresent, kinds, List.foldl_cons]
  have rest : Raised otherKinds (s.raisePresent .linkLost)
      (otherKinds.foldl (fun s k => s.raisePresent k) (s.raisePresent .linkLost)) := by
    refine raises_raised (by decide) _ (by rw [first.req (by decide)]; exact ready) fun k m may => ?_
    have lost := (factory_mayRelease ((first.tab (by decide)).trans tab)).mp may
    exact absurd (lost ▸ m) (by decide)
  rw [parts]
  exact .of_parts ready rfl ((factory_mayRelease tab).mpr rfl) rest

/-! ### The end of INITIALIZING (R26, R134, R191) -/

/-- The state in which the conditions are raised: factory tables, preset 0 everywhere, timers started. -/
def factoryStarted (s : State) : State := s.loadFactory.firstPresets.startFaultTimers

theorem factoryStarted_frame (s : State) : Frame [.tab, .req, .reg, .hold, .mute, .flt] s (factoryStarted s) :=
  ((s.loadFactory_frame.mono (by decide)).trans (s.loadFactory.firstPresets_frame.mono (by decide))).trans
    (s.loadFactory.firstPresets.startFaultTimers_frame.mono (by decide))

/-- One manual's drawbars, glide timer and Pending Registration. -/
def manualPart (s : State) (m : Manual) : Vector Drawbar 9 × Timer × Option (Fin 16) :=
  (s.reg.manualBars m, s.reg.glide[m.toFin], s.reg.pendingReg[m.toFin])

/-- What a manual's part is after its preset p has been applied at once (R123). -/
def presetPart (s : State) (m : Manual) (p : Fin 16) : Vector Drawbar 9 × Timer × Option (Fin 16) :=
  (tabulate 9 (fun n => ⟨s.presetLevel m p n, none⟩), Timer.stopped, none)

theorem selectNow_part (s : State) (m m' : Manual) (p : Fin 16) :
    manualPart (s.selectNow m p) m' = if m' = m then presetPart s m p else manualPart s m' := by
  unfold manualPart presetPart State.selectNow
  rw [State.setReg_reg, manualBars_setManual, glide_setManual, pendingReg_setManual]
  split <;> rfl

theorem selectsNow_part (ms : List Manual) (m : Manual) : ∀ s : State,
    manualPart (ms.foldl (fun s m => s.selectNow m 0) s) m
      = if m ∈ ms then presetPart s m 0 else manualPart s m := by
  induction ms with
  | nil => exact fun s => rfl
  | cons m' ms ih =>
    intro s
    have same : presetPart (s.selectNow m' 0) m 0 = presetPart s m 0 := rfl
    rw [List.foldl_cons, ih, same, selectNow_part]
    by_cases e : m = m'
    · simp [e]
    · simp [e]

/-- Every manual has its preset 0 (R134). -/
theorem firstPresets_part (s : State) (m : Manual) : manualPart s.firstPresets m = presetPart s m 0 := by
  rw [State.firstPresets, selectsNow_part, if_pos (by cases m <;> decide)]

theorem firstPresets_expression (s : State) : s.firstPresets.reg.expression = s.reg.expression := rfl

theorem factoryStarted_record (s : State) (k : FaultKind) : (factoryStarted s).record k = s.record k := by
  have reg := s.loadFactory.firstPresets_frame
  show (s.loadFactory.firstPresets).flt.records[_] = _
  rw [reg.flt (by decide)]
  rfl

/-- The factory's notice settings (R18): notices enabled, notice count 4, notice time 8. -/
theorem factory_noticeSettings {s : State} {strap : BitVec 5} (tab : s.tab = Tables.factory strap) :
    s.noticeEnable = true ∧ s.noticeCount = 4 ∧ s.noticeTime = 8 := by
  have two : (Tables.factory strap).linkSettings[2] = 0x8004#16 := tabulate_get _ (2 : Fin 4)
  have three : (Tables.factory strap).linkSettings[3] = 8#16 := tabulate_get _ (3 : Fin 4)
  rw [State.noticeEnable, State.noticeCount, State.noticeTime, tab, two, three]
  decide

/-- So the first change waits for three more, or for the notice time (R189). -/
theorem factory_noticeDue {s : State} {strap : BitVec 5} (tab : s.tab = Tables.factory strap)
    (one : s.flt.pendingChanges = 1) (timer : s.flt.noticeTimer = Timer.start) : s.noticeDue = false := by
  obtain ⟨_, count, time⟩ := factory_noticeSettings tab
  simp [State.noticeDue, one, timer, count, time, Timer.start]

/-- The first change after the factory settings is counted and stays pending. -/
theorem factory_countChange {s : State} {strap : BitVec 5} (tab : s.tab = Tables.factory strap)
    (ready : s.req.opState ≠ .initializing) (none : s.flt.pendingChanges = 0)
    (timer : s.flt.noticeTimer = Timer.start) :
    s.countChange.flt.noticeTimer = Timer.start ∧ s.countChange.flt.pendingChanges = 1 := by
  obtain ⟨enable, _, _⟩ := factory_noticeSettings tab
  have counts : s.countChange = (s.setFlt { s.flt with pendingChanges := 1 }).checkNotice := by
    simp [State.countChange, enable, ready, none]
  have same : (s.setFlt { s.flt with pendingChanges := 1 }).checkNotice
      = s.setFlt { s.flt with pendingChanges := 1 } := by
    rw [State.checkNotice, factory_noticeDue (s := s.setFlt { s.flt with pendingChanges := 1 }) tab rfl timer]
    rfl
  rw [counts, same]
  exact ⟨timer, rfl⟩

theorem raises_absent {s : State} (absent : ∀ k, (s.record k).present = false) (kinds : List FaultKind) :
    kinds.foldl (fun s k => s.raisePresent k) s = s := by
  induction kinds with
  | nil => rfl
  | cons k kinds ih => rw [List.foldl_cons, raisePresent_absent (absent k), ih]

theorem initTick_eq {s : State} (o : s.req.opState = .initializing) (due : s.req.initTimer.due = true) :
    s.initTick = if 2048 ≤ s.req.initTimer.count + 1 then s.finishInitializing
      else s.setReq { s.req with initTimer := s.req.initTimer.add } := if_pos ⟨o, due⟩

/-- What the factory contents and presets leave to be raised and counted. -/
structure FactoryStarted (s a : State) : Prop where
  record : ∀ k, a.record k = s.record k
  frame : Frame [.tab, .req, .reg, .hold, .mute, .flt] s a
  tab : a.tab = Tables.factory s.lnk.strap
  req : a.req = { s.req with opState := .standby, initTimer := Timer.stopped }
  part : ∀ m, manualPart a m = presetPart a m 0
  expression : a.reg.expression = s.reg.expression
  silence : a.flt.silence = Timer.start
  noticeTimer : a.flt.noticeTimer = Timer.start
  pendingChanges : a.flt.pendingChanges = s.flt.pendingChanges
  signals : a.Signalled

theorem factoryStarted_started (s : State) : FactoryStarted s (factoryStarted s) := by
  have presets := s.loadFactory.firstPresets_frame
  have timers := s.loadFactory.firstPresets.startFaultTimers_frame
  have tab : (factoryStarted s).tab = s.loadFactory.tab :=
    (timers.tab (by decide)).trans (presets.tab (by decide))
  have reg : (factoryStarted s).reg = s.loadFactory.firstPresets.reg := timers.reg (by decide)
  refine ⟨factoryStarted_record s, factoryStarted_frame s, tab, ?_, fun m => ?_, ?_, rfl, rfl, rfl,
    refresh_signalled _⟩
  · exact (timers.req (by decide)).trans (presets.req (by decide))
  · have part := firstPresets_part s.loadFactory m
    simp only [manualPart, presetPart, State.presetLevel, reg, tab] at part ⊢
    exact part
  · rw [reg, firstPresets_expression]
    rfl

/-- The end of INITIALIZING in its parts: the start from the factory contents, the conditions, the count. -/
theorem finishInitializing_parts (s : State) : ∃ a u, s.finishInitializing = u.countChange ∧ FactoryStarted s a ∧
    a.req.opState ≠ .initializing ∧ AllRaised a u ∧ Frame reportBlocks a u ∧
    ((∀ k, (a.record k).present = false) → u = a) := by
  have start := factoryStarted_started s
  have ready : (factoryStarted s).req.opState ≠ .initializing := by
    rw [start.req]
    exact nofun
  exact ⟨factoryStarted s, (factoryStarted s).raiseAllPresent, rfl, start, ready,
    raiseAllPresent_allRaised start.tab ready, State.raiseAllPresent_frame _, fun none => raises_absent none allKinds⟩

/-- Settles O6. -/
theorem initializingEnds : Obligations.InitializingEnds := by
  intro s run o due
  have go : exec .initializationDone s = .next s.initTick := whenRunning_running run
  rw [initTick_eq o due] at go
  refine ⟨fun early => by rw [go, if_neg (by omega)], fun late => ?_⟩
  obtain ⟨a, u, finish, start, ready, raised, frame, absent⟩ := finishInitializing_parts s
  rw [if_pos late, finish] at go
  have count := u.countChange_frame
  have kept := countChange_summaryKept u
  have tab : u.countChange.tab = a.tab := (count.tab (by decide)).trans (frame.tab (by decide))
  have reg : u.countChange.reg = a.reg := (count.reg (by decide)).trans (frame.reg (by decide))
  have mode : ∀ k, u.countChange.faultMode k = a.faultMode k := fun k => by
    rw [State.faultMode, tab, State.faultMode]
  have action : ∀ k, u.countChange.faultAction k = a.faultAction k := fun k => by
    rw [State.faultAction, tab, State.faultAction]
  have parts : ∀ m, manualPart u.countChange m = presetPart u.countChange m 0 := fun m => by
    have part := start.part m
    simp only [manualPart, presetPart, State.presetLevel, reg, tab] at part ⊢
    exact part
  refine ⟨_, go, ?_, tab.trans start.tab, fun m n => ?_, fun m => ?_, ?_, ?_, ?_, fun k n => ?_, fun p h => ?_,
    fun p => ?_, fun none zero => ?_, fun quiet => ?_, ?_⟩
  · rw [count.req (by decide), frame.req (by decide), start.req]
  · have bars : u.countChange.reg.manualBars m = tabulate 9 (fun n => ⟨u.countChange.presetLevel m 0 n, none⟩) :=
      congrArg Prod.fst (parts m)
    rw [bars, tabulate_get]
  · exact ⟨congrArg (fun x => x.2.1) (parts m), congrArg (fun x => x.2.2) (parts m)⟩
  · rw [reg, start.expression]
  · rw [countChange_silence, raised.silence, start.silence]
  · exact kept.signalled (raised.signals start.signals)
  · rw [countChange_record, raised.records k n, mode, action, start.record]
  · rw [← start.record] at p h
    exact Released.congr (raised.released p h) (start.frame.key (by decide)) (start.frame.bus (by decide))
      (start.frame.tick (by decide)) (count.key (by decide)) (count.seq (by decide)) (count.bus (by decide))
  · rw [← start.record] at p
    rw [countChange_record, (raised.quiet (.inl p)).records, mode, action, start.record]
    simp [mem_allKinds]
  · have same : u = a := absent fun k => by rw [start.record, none]
    rw [same]
    exact factory_countChange start.tab ready (start.pendingChanges.trans zero) start.noticeTimer
  · rw [← start.record] at quiet
    exact ((start.frame.mono (by decide)).trans ((raised.quiet quiet).frame.mono (by decide))).trans
      (count.mono (by decide))
  · exact ((start.frame.mono (by decide)).trans (frame.mono (by decide))).trans (count.mono (by decide))

end Sys2Proof.Machine.Requests
end

section
/-!
PROOFS. The soft reset: the table under restore becomes factory, the blocks and the fault records start afresh
(02_requests_tables_and_commands.md 2.7, 2.8).
-/

namespace Sys2Proof.Machine.Requests

/-! ### The factory contents as entries (R40) -/

/-- The factory contents of a table's entries, by index. -/
abbrev factoryWords (t : TableId) (s : State) : Nat → List Word := factoryEntry t s.lnk.strap

theorem factoryEntries_all (t : TableId) (s : State) :
    s.factoryEntries t 0 (tableEntries t) = entriesFrom 0 (tableEntries t) (factoryWords t s) := by
  simp only [State.factoryEntries, Nat.sub_zero, Nat.min_self, entriesFrom, Nat.zero_add]

theorem factoryPitch_small : ∀ i < 96, factoryPitch i < 2 ^ 24 := by decide

theorem factoryWords_entryWords {t : TableId} (writable : tableWritable t = true) (s : State) {j : Nat}
    (lt : j < tableEntries t) : EntryWords t (factoryWords t s j) := by
  refine ⟨by cases t <;> first | rfl | contradiction, fun pitch => ?_⟩
  subst pitch
  have small := factoryPitch_small j lt
  simp only [factoryWords, factoryEntry, pitchWords, List.headD_cons, wordOf, BitVec.toNat_ofNat]
  omega

theorem factoryEntries_inside (t : TableId) (s : State) :
    ∀ e ∈ entriesFrom 0 (tableEntries t) (factoryWords t s), e.1 < tableEntries t := by
  simp only [List.mem_map, List.mem_range]
  rintro _ ⟨j, lt, rfl⟩
  simpa using lt

/-! ### The table under restore becomes factory (R41) -/

/-- A table whose restored entries are only stored in the course of a soft reset. -/
def TableId.StoredAtReset (t : TableId) : Prop := t ≠ .linkSettings ∧ t ≠ .rotorSettings ∧ t ≠ .outputSettings

theorem restoreAll_stored {t : TableId} (h : TableId.StoredAtReset t) (s : State) :
    s.restoreAll t = storeAll t (s.factoryEntries t 0 (tableEntries t)) s := by
  obtain ⟨link, rotor, output⟩ := h
  cases t <;> first | contradiction | rfl

theorem restoreAll_written {t : TableId} (h : ¬ TableId.StoredAtReset t) (s : State) :
    s.restoreAll t = s.writeList t (s.factoryEntries t 0 (tableEntries t)) := by
  cases t
  case linkSettings => rfl
  case rotorSettings => rfl
  case outputSettings => rfl
  all_goals exact absurd ⟨nofun, nofun, nofun⟩ h

/-- A restored table holds what storing its factory contents gives. -/
theorem restoreAll_tab (t : TableId) (s : State) :
    (s.restoreAll t).tab = (storeAll t (entriesFrom 0 (tableEntries t) (factoryWords t s)) s).tab := by
  by_cases h : TableId.StoredAtReset t
  · rw [restoreAll_stored h, factoryEntries_all]
  · rw [restoreAll_written h, factoryEntries_all, writeList_tab (factoryEntries_inside t s) rfl]

theorem storeAll_unwritable {t : TableId} (h : tableWritable t = false) (es : List (Nat × List Word)) (s : State) :
    (storeAll t es s).tab = s.tab := by
  induction es generalizing s with
  | nil => rfl
  | cons e es ih =>
    refine (ih _).trans ?_
    cases t <;> first | rfl | contradiction

/-- Its entries read as factory, and every other entry as before. -/
theorem entryWords_restoreAll (t : TableId) (s : State) :
    (∀ i < tableEntries t, tableWritable t = true →
      (s.restoreAll t).entryWords t i = factoryEntry t s.lnk.strap i) ∧
    ∀ u i, tableWritable u = true → u ≠ t → (s.restoreAll t).entryWords u i = s.entryWords u i := by
  refine ⟨fun i lt writable => ?_, fun u i hu other => ?_⟩
  · obtain ⟨stored, _⟩ := entryWords_storeAll (start := 0) s writable (Nat.le_of_eq (Nat.zero_add _))
      fun j lt => factoryWords_entryWords writable s lt
    rw [entryWords_congr writable (restoreAll_tab t s)]
    have read := stored i lt
    rwa [Nat.zero_add] at read
  · rw [entryWords_congr hu (restoreAll_tab t s)]
    by_cases writable : tableWritable t = true
    · exact (entryWords_storeAll (start := 0) s writable (Nat.le_of_eq (Nat.zero_add _))
        fun j lt => factoryWords_entryWords writable s lt).2 u i hu (.inl other)
    · exact entryWords_congr hu (storeAll_unwritable (Bool.eq_false_iff.mpr writable) _ _) i

/-! ### Link Settings restored (R187) -/

/-- From s to t the tables may have changed, and of the Fault Unit the notices and the silence timer. -/
structure LinkRestored (s t : State) : Prop where
  frame : Frame [.tab, .flt] s t
  records : t.flt.records = s.flt.records

theorem LinkRestored.trans {s t u : State} (a : LinkRestored s t) (b : LinkRestored t u) : LinkRestored s u :=
  ⟨a.frame.trans b.frame, b.records.trans a.records⟩

/-- An entry other than the silence window code leaves the silence timer alone. -/
theorem writeEntry_linkOther {i : Nat} (n : i ≠ 1) (s : State) (ws : List Word) :
    LinkRestored s (s.writeEntry .linkSettings i ws) ∧
      (s.writeEntry .linkSettings i ws).flt.silence = s.flt.silence := by
  have stored := (s.storeEntry_frame .linkSettings i ws).mono (b := [.tab, .flt]) (by decide)
  unfold State.writeEntry
  dsimp only
  rw [if_neg n]
  split
  · have enabled := State.enableWritten_frame s.noticeEnable (s.storeEntry .linkSettings i ws)
    refine ⟨⟨stored.trans (enabled.mono (by decide)), ?_⟩, ?_⟩
    · unfold State.enableWritten
      split_ifs <;> rfl
    · unfold State.enableWritten
      split_ifs <;> rfl
  · exact ⟨⟨stored, rfl⟩, rfl⟩

/-- The factory silence window code starts the silence timer. -/
theorem writeEntry_factoryWindow (s : State) :
    LinkRestored s (s.writeEntry .linkSettings 1 [6#16]) ∧
      (s.writeEntry .linkSettings 1 [6#16]).flt.silence = Timer.start := by
  have code : (s.storeEntry .linkSettings 1 [6#16]).tab.linkSettings[1] = 6#16 := by
    simp [State.storeEntry, Tables.setEntry]
  have window : (s.storeEntry .linkSettings 1 [6#16]).silenceWindow = some (512 * 2 ^ 5) := by
    rw [State.silenceWindow, code]
    rfl
  have written : s.writeEntry .linkSettings 1 [6#16] = (s.storeEntry .linkSettings 1 [6#16]).setFlt
      { s.flt with silence := Timer.start } := by
    show (s.storeEntry .linkSettings 1 [6#16]).silenceWritten = _
    rw [State.silenceWritten, window]
    rfl
  rw [written]
  exact ⟨⟨((s.storeEntry_frame _ _ _).mono (by decide)).trans (Frame.setFlt (by decide) _ _), rfl⟩, rfl⟩

theorem restoreAll_link (s : State) :
    LinkRestored s (s.restoreAll .linkSettings) ∧ (s.restoreAll .linkSettings).flt.silence = Timer.start := by
  have steps : s.restoreAll .linkSettings =
      (((s.writeEntry .linkSettings 0 (factoryEntry .linkSettings s.lnk.strap 0)).writeEntry .linkSettings 1
        [6#16]).writeEntry .linkSettings 2 (factoryEntry .linkSettings s.lnk.strap 2)).writeEntry .linkSettings 3
        (factoryEntry .linkSettings s.lnk.strap 3) := rfl
  rw [steps]
  obtain ⟨a, _⟩ := writeEntry_linkOther (i := 0) (by decide) s (factoryEntry .linkSettings s.lnk.strap 0)
  obtain ⟨b, started⟩ := writeEntry_factoryWindow
    (s.writeEntry .linkSettings 0 (factoryEntry .linkSettings s.lnk.strap 0))
  obtain ⟨c, kept⟩ := writeEntry_linkOther (i := 2) (by decide) ((s.writeEntry .linkSettings 0
    (factoryEntry .linkSettings s.lnk.strap 0)).writeEntry .linkSettings 1 [6#16])
    (factoryEntry .linkSettings s.lnk.strap 2)
  obtain ⟨d, last⟩ := writeEntry_linkOther (i := 3) (by decide) _ (factoryEntry .linkSettings s.lnk.strap 3)
  exact ⟨((a.trans b).trans c).trans d, (last.trans kept).trans started⟩

end Sys2Proof.Machine.Requests
end

section
namespace Sys2Proof.Machine.Requests

/-! ### What abandoning a restore does (R41) -/

/-- From s to v the table under the cursor, if any, has become factory, with what its owner does about it
(R155, R166, R187). -/
structure TableRestored (cursor : Option RestoreCursor) (s v : State) : Prop where
  factory : ∀ r, cursor = some r → ∀ i < tableEntries r.table, tableWritable r.table = true →
    v.entryWords r.table i = factoryEntry r.table s.lnk.strap i
  kept : ∀ u i, tableWritable u = true → (∀ r, cursor = some r → u ≠ r.table) →
    v.entryWords u i = s.entryWords u i
  frame : Frame [.req, .tab, .rot, .out, .flt] s v
  records : v.flt.records = s.flt.records
  outputs : v.out = { s.out with limiters := v.out.limiters }
  rotors : (∀ r, cursor = some r → r.table ≠ .rotorSettings) → v.rot = s.rot
  retargets : ∀ r, cursor = some r → r.table = .rotorSettings → RotorsWritten 0 16 s v
  silence : (∀ r, cursor = some r → r.table ≠ .linkSettings) → v.flt.silence = s.flt.silence
  window : ∀ r, cursor = some r → r.table = .linkSettings → v.flt.silence = Timer.start

theorem tableRestored_none (s : State) : TableRestored none s s :=
  ⟨nofun, fun _ _ _ _ => rfl, .refl _ _, rfl, rfl, fun _ => rfl, nofun, fun _ => rfl, nofun⟩

/-- What the owner of a restored table has done, put together with what the table holds. -/
theorem tableRestored_of_table {r : RestoreCursor} {s : State}
    (frame : Frame [.tab, .rot, .out, .flt] s (s.restoreAll r.table))
    (records : (s.restoreAll r.table).flt.records = s.flt.records)
    (outputs : (s.restoreAll r.table).out = { s.out with limiters := (s.restoreAll r.table).out.limiters })
    (rotors : r.table ≠ .rotorSettings → (s.restoreAll r.table).rot = s.rot)
    (retargets : r.table = .rotorSettings → RotorsWritten 0 16 s (s.restoreAll r.table))
    (silence : r.table ≠ .linkSettings → (s.restoreAll r.table).flt.silence = s.flt.silence)
    (window : r.table = .linkSettings → (s.restoreAll r.table).flt.silence = Timer.start) :
    TableRestored (some r) s (s.restoreAll r.table) := by
  obtain ⟨factory, kept⟩ := entryWords_restoreAll r.table s
  refine ⟨fun r' e => ?_, fun u i hu other => kept u i hu (other r rfl), frame.mono (by decide), records, outputs,
    fun other => rotors (other r rfl), fun r' e => ?_, fun other => silence (other r rfl), fun r' e => ?_⟩
  · obtain rfl := Option.some.inj e
    exact factory
  · obtain rfl := Option.some.inj e
    exact retargets
  · obtain rfl := Option.some.inj e
    exact window

theorem restoreAll_restored (r : RestoreCursor) (s : State) :
    TableRestored (some r) s (s.restoreAll r.table) := by
  obtain ⟨t, index, ticked⟩ := r
  by_cases stored : TableId.StoredAtReset t
  · have frame := storeAll_frame t (s.factoryEntries t 0 (tableEntries t)) s
    rw [← restoreAll_stored stored] at frame
    have flt := frame.flt (by decide)
    exact tableRestored_of_table (frame.mono (by decide)) (by rw [flt])
      (by rw [frame.allOut (by decide) (by decide)]) (fun _ => frame.rot (by decide))
      (fun e => absurd e stored.2.1) (fun _ => by rw [flt]) (fun e => absurd e stored.1)
  · have written := restoreAll_written stored s
    rw [factoryEntries_all] at written
    cases t with
    | linkSettings =>
      obtain ⟨⟨frame, records⟩, window⟩ := restoreAll_link s
      exact tableRestored_of_table (frame.mono (by decide)) records
        (by rw [frame.allOut (by decide) (by decide)]) (fun _ => frame.rot (by decide)) nofun
        (fun n => absurd rfl n) (fun _ => window)
    | rotorSettings =>
      have frame := writeList_rotors_frame (entriesFrom 0 16 (factoryWords .rotorSettings s)) s
      have rotors := rotorsWritten_writeList 0 16 (factoryWords .rotorSettings s) (s := s) (u := s) rfl
      rw [← show s.restoreAll .rotorSettings = s.writeList .rotorSettings
        (entriesFrom 0 16 (factoryWords .rotorSettings s)) from written] at frame rotors
      have flt := frame.flt (by decide)
      exact tableRestored_of_table (frame.mono (by decide)) (by rw [flt])
        (by rw [frame.allOut (by decide) (by decide)]) (fun n => absurd rfl n) (fun _ => rotors)
        (fun _ => by rw [flt]) nofun
    | outputSettings =>
      have frame := writeList_outputs_frame (entriesFrom 0 12 (factoryWords .outputSettings s)) s
      have outputs := outputsWritten_writeList (start := 0) (count := 12) (by decide)
        (factoryWords .outputSettings s) (s := s) (u := s) rfl rfl
      rw [← show s.restoreAll .outputSettings = s.writeList .outputSettings
        (entriesFrom 0 12 (factoryWords .outputSettings s)) from written] at frame outputs
      have flt := frame.flt (by decide)
      exact tableRestored_of_table (frame.mono (by decide)) (by rw [flt]) outputs.others
        (fun _ => frame.rot (by decide)) nofun (fun _ => by rw [flt]) nofun
    | _ => exact absurd ⟨nofun, nofun, nofun⟩ stored

/-- The state with the table under the cursor, if any, restored. -/
def restoredTable (s : State) : State :=
  match s.req.cursor with
  | some r => s.restoreAll r.table
  | none => s

theorem restoredTable_restored (s : State) : TableRestored s.req.cursor s (restoredTable s) := by
  unfold restoredTable
  cases s.req.cursor with
  | none => exact tableRestored_none s
  | some r => exact restoreAll_restored r s

theorem restoredTable_req (s : State) : (restoredTable s).req = s.req := by
  unfold restoredTable
  cases s.req.cursor with
  | none => rfl
  | some r => exact (s.restoreAll_frame r.table).req (by decide)

/-- A long command is abandoned: its table is restored and its result is ABANDONED (R38, R41). -/
theorem abandon_eq (s : State) : s.abandon = (restoredTable s).setReq { s.req with
    inFlight := none, cursor := none
    lastResult := if s.req.inFlight = none then s.req.lastResult else .abandoned } := by
  have req := restoredTable_req s
  have eq : s.abandon = match (restoredTable s).req.inFlight with
      | some _ => (restoredTable s).setReq { (restoredTable s).req with
          inFlight := none, lastResult := .abandoned, cursor := none }
      | none => (restoredTable s).setReq { (restoredTable s).req with cursor := none } := rfl
  rw [eq, req]
  cases flight : s.req.inFlight with
  | none =>
    have same : ({ s.req with cursor := none } : RequestUnit) = { s.req with inFlight := none, cursor := none } := by
      rw [← flight]
    rw [if_pos rfl]
    exact congrArg (State.setReq (restoredTable s)) same
  | some c => rfl

/-! ### A release of keys that are up (R55) -/

/-- Every key is UP with its contacts open and nothing is scheduled. -/
structure KeysIdle (s : State) : Prop where
  records : s.key.records = Vector.replicate 147 KeyRecord.reset
  schedule : s.seq.schedule = []

theorem KeysIdle.record {s : State} (idle : KeysIdle s) (k : KeyId) : s.key.records[k] = KeyRecord.reset := by
  rw [idle.records]
  simp

theorem KeysIdle.contact {s : State} (idle : KeysIdle s) (k : KeyId) (c : ContactId) : s.contact k c = .opened := by
  rw [State.contact, idle.record]
  simp [KeyRecord.reset]

theorem openAll_idle {s : State} (idle : KeysIdle s) (l : List (KeyId × ContactId)) : openAll l s = s := by
  induction l with
  | nil => rfl
  | cons p l ih =>
    have opened : s.applyOpen p.1 p.2 = s := by rw [State.applyOpen, idle.contact]
    rw [openAll, List.foldl_cons, opened]
    exact ih

theorem setKeyState_idle {s : State} (idle : KeysIdle s) (k : KeyId) : s.setKeyState k .up = s := by
  have same : ({ s.key.records[k] with state := .up } : KeyRecord) = s.key.records[k] := by
    rw [idle.record]
    rfl
  have set : s.key.records.set k s.key.records[k] = s.key.records := Vector.set_getElem_self _
  rw [State.setKeyState, same, State.setKeyRecord, set]
  rfl

theorem makeUp_idle {s : State} (idle : KeysIdle s) (m : Manual) : s.makeUp m = s := by
  unfold State.makeUp
  induction manualKeys m with
  | nil => rfl
  | cons k ks ih => rw [List.foldl_cons, setKeyState_idle idle, ih]

theorem releaseManual_idle {s : State} (idle : KeysIdle s) (m : Manual) : s.releaseManual m = s := by
  have without : withoutEntries m s = s := by
    rw [withoutEntries, idle.schedule, List.filter_nil, ← idle.schedule]
    rfl
  have up : s.manualUp m = true := by
    rw [State.manualUp, List.all_eq_true]
    intro k _
    rw [State.keyState, idle.record]
    rfl
  rw [releaseManual_eq, openedManual, without, openAll_idle idle, makeUp_idle idle, up, if_neg (by simp)]

theorem release_idle {s : State} (idle : KeysIdle s) (ms : List Manual) : s.release ms = s := by
  unfold State.release
  induction ms with
  | nil => rfl
  | cons m ms ih => rw [List.foldl_cons, releaseManual_idle idle, ih]

/-! ### The fault records at a soft reset (R191) -/

theorem KeysIdle.of_frame {l : List Block} {s t : State} (idle : KeysIdle s) (f : Frame l s t) (key : Block.key ∉ l)
    (seq : Block.seq ∉ l) : KeysIdle t := ⟨(f.key key).trans idle.records, (f.seq seq).trans idle.schedule⟩

/-- An occurrence has no key to release. -/
theorem occur_idle {s : State} (idle : KeysIdle s) (k : FaultKind) : Frame refreshBlocks s (s.occur k) := by
  have signals := (withOccurrence_refresh k s).1
  rcases occur_cases k s with ⟨_, _, go, _⟩ | ⟨_, go⟩ | ⟨_, go⟩
  · rw [go]
    exact .refl _ _
  · rw [go]
    exact signals
  · rw [go, release_idle (idle.of_frame signals (by decide) (by decide))]
    exact signals

/-- The record of a condition that LNK or OUT reports again after the records were cleared. -/
def FaultRecord.reraised (mode : FaultMode) (action : Action) (present : Bool) : FaultRecord :=
  if present then FaultRecord.occurred mode action { FaultRecord.clear with present := true } else FaultRecord.clear

theorem reraised_cases (mode : FaultMode) (action : Action) (present : Bool) :
    let r := FaultRecord.reraised mode action present
    r.present = present ∧ r.flag = (present && mode != .disabled) ∧
      r.held = (if present ∧ mode.holds then some action else none) ∧ r.retry = Timer.stopped := by
  cases present with
  | false => exact ⟨rfl, rfl, rfl, rfl⟩
  | true => cases mode <;> exact ⟨rfl, rfl, rfl, rfl⟩

/-- From s to t a record that was clear stands as reported, and no key, no other record and no notice has
changed. -/
structure Reraised (k : FaultKind) (present : Bool) (s t : State) : Prop where
  frame : Frame refreshBlocks s t
  records : ∀ j, t.record j
    = if j = k then FaultRecord.reraised (s.faultMode k) (s.faultAction k) present else s.record j
  notices : NoticesKept s t
  signals : s.Signalled → t.Signalled

theorem setRecord_summaryKept {s : State} {k : FaultKind} {r : FaultRecord} (flag : r.flag = (s.record k).flag)
    (held : r.held = (s.record k).held) : SummaryKept s (s.setRecord k r) := by
  refine .of_frame (s.setRecord_frame k r) (by decide) (by decide) (by decide) (by decide) (by decide)
    (fun j => ?_) (fun j => ?_) rfl rfl
  · rw [record_setRecord]
    split
    · next e => rw [e, flag]
    · rfl
  · rw [record_setRecord]
    split
    · next e => rw [e, held]
    · rfl

theorem reraise_reraised {s : State} (idle : KeysIdle s) {k : FaultKind} (clear : s.record k = FaultRecord.clear)
    (present : Bool) : Reraised k present s (s.reraise k present) := by
  unfold State.reraise
  cases present with
  | false =>
    rw [if_neg Bool.false_ne_true]
    refine ⟨.refl _ _, fun j => ?_, .refl _, id⟩
    by_cases e : j = k
    · rw [if_pos e, e, clear]
      rfl
    · rw [if_neg e]
  | true =>
    have set := s.setRecord_frame k { FaultRecord.clear with present := true }
    have kept : SummaryKept s (s.setRecord k { FaultRecord.clear with present := true }) :=
      setRecord_summaryKept (by rw [clear]) (by rw [clear])
    have frame := occur_idle (idle.of_frame set (by decide) (by decide)) k
    have raw := occur_applied k (s.setRecord k { FaultRecord.clear with present := true })
    rw [if_pos rfl, clear]
    refine ⟨(set.mono (by decide)).trans frame, fun j => ?_, (setRecord_noticesKept _ _ _).trans raw.notices,
      fun h => raw.signals (kept.signalled h)⟩
    rw [raw.records, frame.eng (by decide), if_neg fun c => c.2.1 c.2.2, record_setRecord]
    by_cases e : j = k
    · subst e
      simp only [if_true]
      rfl
    · rw [if_neg e, if_neg e, if_neg e]

/-- The Fault Unit after a soft reset, with the keys up (R191). -/
structure FaultsReset (s t : State) : Prop where
  frame : Frame refreshBlocks s t
  clear : ∀ k, k ≠ .linkLost → k ≠ .clockFallback → t.record k = FaultRecord.clear
  again : ∀ k, k = .linkLost ∨ k = .clockFallback →
    t.record k = FaultRecord.reraised (s.faultMode k) (s.faultAction k) (s.record k).present
  silence : t.flt.silence = s.flt.silence
  pendingChanges : t.flt.pendingChanges = 0
  noticeTimer : t.flt.noticeTimer = Timer.start
  waiting : t.flt.waiting = false
  signals : t.Signalled

/-- The state with every fault record cleared and the signals after it. -/
def clearedRecords (s : State) : State :=
  (s.setFlt { s.flt with records := Vector.replicate 8 FaultRecord.clear }).refresh

theorem clearedRecords_frame (s : State) : Frame refreshBlocks s (clearedRecords s) :=
  (Frame.setFlt (by decide) s _).trans (State.refresh_frame _)

theorem clearedRecords_record (s : State) (k : FaultKind) : (clearedRecords s).record k = FaultRecord.clear := by
  show (Vector.replicate 8 FaultRecord.clear)[k.toFin] = _
  simp

/-- The notices at a soft reset: none is pending, waiting or timed (R191). -/
def noticesReset (s : State) : State :=
  s.setFlt { s.flt with pendingChanges := 0, noticeTimer := Timer.start, waiting := false }

theorem faultsReset_of_reraised {s u v : State}
    (a : Reraised .linkLost (s.record .linkLost).present (clearedRecords s) u)
    (b : Reraised .clockFallback (s.record .clockFallback).present u v) : FaultsReset s (noticesReset v) := by
  have cleared := clearedRecords_frame s
  have tab : u.tab = s.tab := (a.frame.tab (by decide)).trans (cleared.tab (by decide))
  have mode : u.faultMode .clockFallback = s.faultMode .clockFallback := by rw [State.faultMode, tab, State.faultMode]
  have action : u.faultAction .clockFallback = s.faultAction .clockFallback := by
    rw [State.faultAction, tab, State.faultAction]
  have frame := (cleared.trans a.frame).trans b.frame
  have record : ∀ k, (noticesReset v).record k = v.record k := fun _ => rfl
  refine ⟨frame.trans (Frame.setFlt (by decide) _ _), fun k n m => ?_, fun k e => ?_,
    b.notices.silence.trans a.notices.silence, rfl, rfl, rfl, ?_⟩
  · rw [record, b.records, if_neg m, a.records, if_neg n, clearedRecords_record]
  · rcases e with rfl | rfl
    · rw [record, b.records, if_neg (by decide), a.records, if_pos rfl]
      rfl
    · rw [record, b.records, if_pos rfl, mode, action]
  · obtain ⟨hold, mute, fault, warn⟩ := b.signals (a.signals (refresh_signalled _))
    exact ⟨hold, mute, fault, warn⟩

theorem softResetFaults_reset {s : State} (idle : KeysIdle s) : FaultsReset s s.softResetFaults := by
  have idle₁ := idle.of_frame (clearedRecords_frame s) (by decide) (by decide)
  have a := reraise_reraised idle₁ (clearedRecords_record s .linkLost) (s.record .linkLost).present
  have idle₂ := idle₁.of_frame a.frame (by decide) (by decide)
  have still : ((clearedRecords s).reraise .linkLost (s.record .linkLost).present).record .clockFallback
      = FaultRecord.clear := by
    rw [a.records, if_neg (by decide), clearedRecords_record]
  exact faultsReset_of_reraised a (reraise_reraised idle₂ still (s.record .clockFallback).present)

end Sys2Proof.Machine.Requests
end

section
namespace Sys2Proof.Machine.Requests

/-! ### The soft reset (R41) -/

theorem RotorsWritten.congr {start n : Nat} {s s' v v' : State} (w : RotorsWritten start n s v) (rot : s'.rot = s.rot)
    (rot' : v'.rot = v.rot) (tab : v'.tab = v.tab) : RotorsWritten start n s' v' := by
  refine ⟨?_, ?_, ?_⟩
  · rw [rot, rot']
    exact w.others
  · rw [rot, rot', tab]
    exact w.named
  · rw [rot, rot']
    exact w.kept

/-- A restored table, told of states that differ in the Request Unit. -/
theorem TableRestored.congr {c : Option RestoreCursor} {s s' v v' : State} (x : TableRestored c s v)
    (f : Frame [.req] s s') (f' : Frame [.req] v v') (frame : Frame [.req, .tab, .rot, .out, .flt] s' v') :
    TableRestored c s' v' := by
  have tab := f.tab (by decide)
  have tab' := f'.tab (by decide)
  have rot := f.rot (by decide)
  have rot' := f'.rot (by decide)
  have flt := f.flt (by decide)
  have flt' := f'.flt (by decide)
  have out := f.allOut (by decide) (by decide)
  have out' := f'.allOut (by decide) (by decide)
  have lnk := f.allLnk (by decide) (by decide) (by decide)
  refine ⟨fun r e i lt writable => ?_, fun u i hu other => ?_, frame, ?_, ?_, fun o => ?_, fun r e t => ?_, fun o => ?_,
    fun r e t => ?_⟩
  · rw [entryWords_congr writable tab', x.factory r e i lt writable, lnk]
  · rw [entryWords_congr hu tab', x.kept u i hu other, entryWords_congr hu tab]
  · rw [flt', x.records, flt]
  · rw [out', out]
    exact x.outputs
  · rw [rot', x.rotors o, rot]
  · exact (x.retargets r e t).congr rot rot' tab'
  · rw [flt', x.silence o, flt]
  · rw [flt', x.window r e t]

/-- The Request Unit after a soft reset (R41). -/
def softRequest (s : State) : RequestUnit := { s.req with
  opState := .standby, inFlight := none, cursor := none, resetCause := .soft
  lastResult := if s.req.inFlight = none then s.req.lastResult else .abandoned }

/-- The state in STANDBY with what was in flight abandoned. -/
def abandoned (s : State) : State :=
  let u := (s.setReq { s.req with resetCause := .soft }).abandon
  u.setReq { u.req with opState := .standby }

theorem abandoned_eq (s : State) :
    abandoned s = (restoredTable (s.setReq { s.req with resetCause := .soft })).setReq (softRequest s) := by
  rw [abandoned, abandon_eq]
  rfl

theorem abandoned_req (s : State) : (abandoned s).req = softRequest s := by
  rw [abandoned_eq]
  rfl

/-- What the table under restore has become (R41). -/
theorem abandoned_restored (s : State) : TableRestored s.req.cursor s (abandoned s) := by
  have x := restoredTable_restored (s.setReq { s.req with resetCause := .soft })
  rw [abandoned_eq]
  exact x.congr (Frame.setReq (by decide) _ _) (Frame.setReq (by decide) _ _)
    (((Frame.setReq (by decide) _ _).trans x.frame).trans (Frame.setReq (by decide) _ _))

theorem softReset_eq (s : State) :
    s.softReset = (abandoned s).softResetBlocks.softResetFaults.setCnt Counters.zero := rfl

end Sys2Proof.Machine.Requests
end

section
namespace Sys2Proof.Machine.Requests

theorem exec_softReset {h : Head} {s : State} (ready : s.Ready) (room : s.RoomFor h) :
    exec (.softReset h 0 []) s = .next (reply h .ok 9 [] (inHand h s)).softReset := by
  have high : requestHigh (commandPayload 9 0 []) = 9 := requestHigh_commandPayload (by decide) _ _
  have act : ∀ u, actCommand (commandPayload 9 0 []) u = answered u := fun u => by
    rw [actCommand_action (payload := commandPayload 9 0 []) (act := actSoftReset) (List.cons_ne_nil _ _)
      (by rw [high]; rfl) (by rw [high]; rfl), requestLow_commandPayload]
    rfl
  have free : (h.sent == .addressed && s.replyFull) = false := by
    cases sent : h.sent with
    | broadcast => rfl
    | addressed =>
      have full : ¬ replyCapacity ≤ s.lnk.replies.length := Nat.not_le.mpr (room sent)
      rw [State.replyFull, decide_eq_false full]
      rfl
  have taken : s.softResetTaken h (commandPayload 9 0 []) = true := by
    rw [State.softResetTaken, high, whenReady_ready ready.2, act, free]
    rfl
  rw [exec_commandRequest rfl ready.1, State.takeCommand, taken, if_pos rfl, answer_eq_reply room, high,
    whenReady_ready (s := inHand h s) ready.2, act]
  rfl

theorem softResetBlocks_idle (s : State) : KeysIdle s.softResetBlocks := ⟨rfl, rfl⟩

theorem countOf_reset (row : BusRow) (w : Wheel) : BusMatrix.reset.countOf row w = 0 := by
  simp [BusMatrix.countOf, BusMatrix.reset]

theorem softReset_reg (r : Registration) :
    (∀ m, ∀ n : Fin 9, (r.softReset.manualBars m)[n] = ⟨((r.manualBars m)[n]).level, none⟩) ∧
    (∀ m : Manual, r.softReset.glide[m.toFin] = Timer.stopped ∧ r.softReset.pendingReg[m.toFin] = none) := by
  refine ⟨fun m n => ?_, fun m => ⟨?_, ?_⟩⟩
  · simp [Registration.softReset, Registration.manualBars]
  · simp [Registration.softReset]
  · simp [Registration.softReset]

/-- The soft reset in its parts: what is abandoned, the blocks and the Fault Unit, the counters. -/
theorem softReset_parts (s : State) : ∃ v x, s.softReset = x.setCnt Counters.zero ∧
    TableRestored s.req.cursor s v ∧ v.req = softRequest s ∧ FaultsReset v.softResetBlocks x :=
  ⟨abandoned s, _, softReset_eq s, abandoned_restored s, abandoned_req s,
    softResetFaults_reset (softResetBlocks_idle _)⟩

/-- The state after a soft reset shows the tables that are left when the restore has been abandoned. -/
theorem entryWords_softReset {v x : State} (f : FaultsReset v.softResetBlocks x) {u : TableId}
    (writable : tableWritable u = true) (i : Nat) : (x.setCnt Counters.zero).entryWords u i = v.entryWords u i :=
  entryWords_congr (s := v) (t := x.setCnt Counters.zero) writable
    ((f.frame.tab (by decide)).trans (v.softResetBlocks_frame.tab (by decide))) i

/-- The outputs after a soft reset: fresh limiters, muted in STANDBY (R170, R178). -/
theorem out_softReset {v x : State} (f : FaultsReset v.softResetBlocks x) (standby : x.req.opState = .standby) :
    x.out = { v.out.softReset with muteRequest := true } := by
  have mute : x.out.muteRequest = true := by
    rw [f.signals.mute, State.muteWanted, standby]
    rfl
  have others : { x.out with muteRequest := v.out.softReset.muteRequest } = v.out.softReset :=
    f.frame.out (by decide)
  rw [← others, ← mute]

/-- A record of LINK_LOST or CLOCK_FALLBACK after a soft reset, under the configuration then in force (R191). -/
theorem record_softReset {s v x : State} (f : FaultsReset v.softResetBlocks x) (records : v.flt.records = s.flt.records)
    {k : FaultKind} (e : k = .linkLost ∨ k = .clockFallback) :
    x.record k = FaultRecord.reraised (x.faultMode k) (x.faultAction k) (s.record k).present := by
  have blocks := v.softResetBlocks_frame
  have mode : x.faultMode k = v.softResetBlocks.faultMode k := by
    rw [State.faultMode, f.frame.tab (by decide), State.faultMode]
  have action : x.faultAction k = v.softResetBlocks.faultAction k := by
    rw [State.faultAction, f.frame.tab (by decide), State.faultAction]
  have present : v.softResetBlocks.record k = s.record k := by
    rw [State.record, blocks.flt (by decide), records, State.record]
  rw [f.again k e, mode, action, present]

/-- A rotor under restored Rotor Settings takes the speed in force as its target (R155, R166). -/
theorem retargets_softReset {s t : State} (w : RotorsWritten 0 16 s t) (i : RotorId) :
    let base := (match i with | .horn => 0 | .drum => 4)
    (s.rot.selector = .slow → (s.rot.rotor i).Retargeted
      ((t.entryWords .rotorSettings base).headD 0).toNat .slow (t.rot.rotor i)) ∧
    (s.rot.selector = .fast → (s.rot.rotor i).Retargeted
      ((t.entryWords .rotorSettings (base + 1)).headD 0).toNat .fast (t.rot.rotor i)) ∧
    (s.rot.selector = .stop → t.rot.rotor i = s.rot.rotor i) := by
  have named := w.named i
  refine ⟨fun slow => ?_, fun fast => ?_, fun stop => w.kept i fun j e => ?_⟩
  · rw [slow] at named
    cases i with
    | horn => exact named 0 rfl (by decide) (by decide)
    | drum => exact named 4 rfl (by decide) (by decide)
  · rw [fast] at named
    cases i with
    | horn => exact named 1 rfl (by decide) (by decide)
    | drum => exact named 5 rfl (by decide) (by decide)
  · rw [stop] at e
    cases e

/-- Settles O34. -/
theorem softReset : Obligations.SoftReset := by
  intro h s ready room
  obtain ⟨v, x, eq, table, req, f⟩ := softReset_parts (reply h .ok 9 [] (inHand h s))
  have go := exec_softReset ready room
  rw [eq] at go
  have blocks := v.softResetBlocks_frame
  have idle := (softResetBlocks_idle v).of_frame f.frame (by decide) (by decide)
  have reqx : x.req = softRequest s := (f.frame.req (by decide)).trans ((blocks.req (by decide)).trans req)
  have bus : x.bus = BusMatrix.reset := f.frame.bus (by decide)
  have eng : x.eng = v.eng.softReset := f.frame.eng (by decide)
  have engv : v.eng = s.eng := table.frame.eng (by decide)
  have reg : x.reg = v.reg.softReset := f.frame.reg (by decide)
  have regv : v.reg = s.reg := table.frame.reg (by decide)
  have prc : x.prc = v.prc.softReset := f.frame.prc (by decide)
  have prcv : v.prc = s.prc := table.frame.prc (by decide)
  have outputs : v.out = { s.out with limiters := v.out.limiters } := table.outputs
  have out : x.out = { s.out with
      limiters := Vector.replicate 4 Limiter.reset, muteRequest := true, unlimited := true } := by
    rw [out_softReset f (by rw [reqx]; rfl), outputs]
    rfl
  have rot : x.rot = v.rot := f.frame.rot (by decide)
  have silence : x.flt.silence = v.flt.silence := f.silence
  have tab : x.tab = v.tab := (f.frame.tab (by decide)).trans (blocks.tab (by decide))
  have lnk : x.lnk = (reply h .ok 9 [] (inHand h s)).lnk :=
    (f.frame.allLnk (by decide) (by decide) (by decide)).trans ((blocks.allLnk (by decide) (by decide)
      (by decide)).trans (table.frame.allLnk (by decide) (by decide) (by decide)))
  have replied : Replied h .ok 9 [] [] s (reply h .ok 9 [] (inHand h s)) :=
    replied_reply _ _ _ (List.append_nil _).symm
  rw [Replied, List.append_nil, ← lnk] at replied
  rw [regv] at reg
  rw [prcv] at prc
  rw [engv] at eng
  obtain ⟨bars, glides⟩ := softReset_reg s.reg
  rw [← reg] at bars glides
  refine ⟨_, go, replied, reqx, fun r e i lt w => (entryWords_softReset f w i).trans (table.factory r e i lt w),
    fun u i hu other => ?_, fun k => ⟨congrArg KeyRecord.state (idle.record k),
      congrArg KeyRecord.travel (idle.record k), idle.contact k⟩, idle.schedule,
    fun row w => ?_, fun w => ?_, congrArg BusMatrix.clicks bus, eng, bars, glides,
    ?_, prc, fun o => ?_, ?_, f.clear, fun k e => ?_, f.pendingChanges, f.noticeTimer,
    f.waiting, ⟨f.signals.hold, f.signals.mute, f.signals.fault, f.signals.warn⟩, counters_zero rfl,
    fun o => rot.trans (table.rotors o), fun r e t => ?_, fun o => silence.trans (table.silence o),
    fun r e t => silence.trans (table.window r e t), ?_⟩
  · rw [entryWords_softReset f hu, table.kept u i hu other]
    exact entryWords_congr hu rfl i
  · rw [State.setCnt_bus, bus]
    exact countOf_reset row w
  · rw [State.setCnt_bus, bus]
    simp [BusMatrix.reset]
  · rw [State.setCnt_reg, reg]
    rfl
  · rw [State.setCnt_out, out]
    simp [Limiter.reset]
  · rw [State.setCnt_out, out]
  · have record : (x.setCnt Counters.zero).record k = _ := record_softReset f table.records e
    rw [record]
    exact reraised_cases _ _ _
  · have w : RotorsWritten 0 16 s (x.setCnt Counters.zero) := RotorsWritten.congr (table.retargets r e t) rfl rot tab
    exact ⟨w.others, retargets_softReset w⟩
  · have answered := ((inHand_frame h s).mono (by decide)).trans (reply_frame h .ok 9 [] (inHand h s))
    exact (((answered.mono (by decide)).trans (table.frame.mono (by decide))).trans
      ((blocks.mono (by decide)).trans (f.frame.mono (by decide)))).trans (Frame.setCnt (by decide) _ _)

end Sys2Proof.Machine.Requests
end

section
/-!
PROOFS. Keys: a key event without effect, the keys of a manual, and what a report to the Fault Unit leaves of the
keys (03_keys_and_the_key_map.md 3.3, 3.8).
-/

namespace Sys2Proof.Machine.Keys

open Sys2Proof.Machine.Requests

/-! ### Key events on a mapped key (R44, R49, R51, R52) -/

theorem exec_keyDown {source : BitVec 2} {raw : BitVec 7} {travel : BitVec 6} {k : KeyId} {s : State}
    (playing : s.Playing) (m : s.mappedKey source raw = some k) :
    exec (.keyDown source raw travel) s = .next (s.keyDownOn k travel) := by
  rw [show exec (.keyDown source raw travel) s = _ from whenRunning_running playing.1, keyEvent_down playing.2 m]

theorem exec_keyUp {source : BitVec 2} {raw : BitVec 7} {travel : BitVec 6} {k : KeyId} {s : State}
    (playing : s.Playing) (m : s.mappedKey source raw = some k) :
    exec (.keyUp source raw travel) s = .next (s.keyUpOn k travel) := by
  rw [show exec (.keyUp source raw travel) s = _ from whenRunning_running playing.1, State.keyEvent,
    if_pos playing.2, m]
  rfl

theorem keyDownOn_repeat {k : KeyId} {s : State} (travel : BitVec 6) (hold : s.key.hold = false)
    (down : s.keyState k = .descending ∨ s.keyState k = .down) : s.keyDownOn k travel = s.repeatKey := by
  unfold State.keyDownOn
  rw [hold, if_neg Bool.false_ne_true]
  rcases down with e | e <;> rw [e]

theorem keyUpOn_repeat {k : KeyId} {s : State} (travel : BitVec 6)
    (up : s.keyState k = .ascending ∨ s.keyState k = .up) : s.keyUpOn k travel = s.repeatKey := by
  unfold State.keyUpOn
  rcases up with e | e <;> rw [e]

/-- Settles O36. -/
theorem repeatsChangeNothing : Obligations.RepeatsChangeNothing := by
  intro source raw travel k s playing mapped repeated
  refine ⟨fun hold down => ?_, fun up => ?_⟩
  · rw [exec_keyDown playing mapped, keyDownOn_repeat travel hold down]
    rfl
  · rw [exec_keyUp playing mapped, keyUpOn_repeat travel up]
    rfl

/-! ### Key states and contacts -/

theorem manualUp_iff {s : State} {m : Manual} :
    s.manualUp m = true ↔ ∀ k, keyManual k = m → s.keyState k = .up := by
  simp only [State.manualUp, List.all_eq_true, mem_manualKeys, beq_iff_eq]

/-- A key that is not UP keeps its manual from being all UP. -/
theorem manualUp_false {s : State} {k : KeyId} (h : s.keyState k ≠ .up) : s.manualUp (keyManual k) = false :=
  Bool.eq_false_iff.mpr fun up => h (manualUp_iff.mp up k rfl)

theorem manualUp_congr {s t : State} {m : Manual}
    (e : ∀ k, keyManual k = m → (t.keyState k = .up ↔ s.keyState k = .up)) : t.manualUp m = s.manualUp m := by
  rw [Bool.eq_iff_iff, manualUp_iff, manualUp_iff]
  exact forall₂_congr e

theorem hasEntry_iff {s : State} {k : KeyId} : s.hasEntry k = true ↔ ∃ x ∈ s.seq.schedule, x.key = k := by
  simp only [State.hasEntry, List.any_eq_true, beq_iff_eq]

theorem hasEntry_false {s : State} {k : KeyId} : s.hasEntry k = false ↔ ∀ x ∈ s.seq.schedule, x.key ≠ k := by
  rw [Bool.eq_false_iff, ne_eq, hasEntry_iff, not_exists]
  exact forall_congr' fun _ => not_and

theorem setKeyState_get (s : State) (k j : KeyId) (st : KeyState) : (s.setKeyState k st).key.records[j]
    = if j = k then { s.key.records[j] with state := st } else s.key.records[j] := by
  rw [State.setKeyState, setKeyRecord_get]
  split
  · next e => rw [e]
  · rfl

theorem setKeyState_state (s : State) (k j : KeyId) (st : KeyState) :
    (s.setKeyState k st).keyState j = if j = k then st else s.keyState j := by
  rw [State.keyState, setKeyState_get]
  split <;> rfl

theorem setKeyState_contact (s : State) (k j : KeyId) (c : ContactId) (st : KeyState) :
    (s.setKeyState k st).contact j c = s.contact j c := by
  rw [State.contact, setKeyState_get]
  split <;> rfl

theorem keyState_of_frame {l : List Block} {s t : State} (f : Frame l s t) (key : Block.key ∉ l) (k : KeyId) :
    t.keyState k = s.keyState k := by rw [State.keyState, f.key key, State.keyState]

theorem contact_of_frame {l : List Block} {s t : State} (f : Frame l s t) (key : Block.key ∉ l) (k : KeyId)
    (c : ContactId) : t.contact k c = s.contact k c := by rw [State.contact, f.key key, State.contact]

theorem manualUp_of_frame {l : List Block} {s t : State} (f : Frame l s t) (key : Block.key ∉ l) (m : Manual) :
    t.manualUp m = s.manualUp m := manualUp_congr fun k _ => by rw [keyState_of_frame f key]

theorem mem_allManuals (m : Manual) : m ∈ allManuals := by cases m <;> decide

/-- CP is a contact of the UPPER keys only (R48). -/
theorem nine_mem_contactsOf {k : KeyId} : (9 : ContactId) ∈ contactsOf k ↔ keyManual k = .upper := by
  unfold contactsOf
  cases keyManual k <;> decide

/-- The contacts of one key count on different busses (R76). -/
theorem contactRow_inj {j k : KeyId} {c d : ContactId} (hc : c ∈ contactsOf j) (hd : d ∈ contactsOf k) :
    contactRow (keyManual j) c = contactRow (keyManual k) d ↔ keyManual j = keyManual k ∧ c = d := by
  unfold contactsOf at hc hd
  revert hc hd c d
  cases keyManual j <;> cases keyManual k <;> decide

/-! ### Reports that may release the keys (R181, R182) -/

/-- What a report that starts no release can touch, with the Engine Cache and the counters. -/
abbrev quietBlocks : List Block := [.replies, .hold, .mute, .flt, .eng, .cnt]

/-- What holds of the keys, the schedule and the busses whatever the Fault Unit and the Engine Cache do, a release
of all manuals included. -/
structure ReleaseStable (P : State → Prop) : Prop where
  quiet : ∀ {s t : State}, Frame quietBlocks s t → P s → P t
  released : ∀ {s : State}, P s → P (s.release allManuals)

namespace ReleaseStable

variable {P : State → Prop} {s : State}

theorem occur (h : ReleaseStable P) (k : FaultKind) (p : P s) : P (s.occur k) := by
  have signals : P (withOccurrence k s).refresh := h.quiet ((withOccurrence_refresh k s).1.mono (by decide)) p
  rcases occur_cases k s with ⟨_, _, go, _⟩ | ⟨_, go⟩ | ⟨_, go⟩
  · rwa [go]
  · rwa [go]
  · rw [go]
    exact h.released signals

theorem asEvent (h : ReleaseStable P) {f : State → State} (p : P (f s)) : P (s.asEvent f) :=
  h.quiet ((asEvent_notices f s).mono (by decide)) p

theorem raiseEvent (h : ReleaseStable P) (k : FaultKind) (p : P s) : P (s.raiseEvent k) := by
  unfold State.raiseEvent
  split
  · exact p
  · exact h.asEvent (h.occur k p)

theorem conditionPresent (h : ReleaseStable P) (k : FaultKind) (p : P s) : P (s.conditionPresent k) := by
  have noted : P (s.setRecord k { s.record k with present := true }) :=
    h.quiet ((s.setRecord_frame k _).mono (by decide)) p
  unfold State.conditionPresent
  dsimp only
  split
  · exact p
  · split
    · exact noted
    · exact h.asEvent (h.occur k noted)

theorem demandUp (h : ReleaseStable P) (w : Wheel) (p : P s) : P (s.demandUp w) := by
  have served : P ((s.setEng (s.eng.demandUp w).1).count (countServed (s.eng.demandUp w).2)) :=
    h.quiet ((Frame.setEng (by decide) _ _).trans ((State.count_frame _ _).mono (by decide))) p
  unfold State.demandUp
  dsimp only
  split
  · exact h.conditionPresent _ served
  · exact served

end ReleaseStable

end Sys2Proof.Machine.Keys
end

section
/-!
PROOFS. The laws of the keys, the counts and the percussion envelope, and what a release keeps of them
(03_keys_and_the_key_map.md 3.8, 05_the_bus_matrix.md R76, 08_percussion_and_scanner.md R136).
-/

namespace Sys2Proof.Machine.Keys

open Sys2Proof.Machine.Requests

/-! ### Counts (R76) -/

/-- The counts are those of the closed contacts, and the contacts that a key does not have are open: what holds in
the middle of a key event too. -/
structure ContactsCounted (s : State) : Prop where
  counts : ∀ row w, s.bus.countOf row w = (s.keysOn row w).length
  absent : ∀ k c, c ∉ contactsOf k → s.contact k c = .opened

theorem ContactsCounted.congr {s t : State} (h : ContactsCounted s) (contact : ∀ k c, t.contact k c = s.contact k c)
    (count : ∀ row w, t.bus.countOf row w = s.bus.countOf row w) : ContactsCounted t :=
  ⟨fun row w => by simp only [count, h.counts, State.keysOn, contact], fun k c n => by rw [contact, h.absent k c n]⟩

theorem ContactsCounted.of_frame {l : List Block} {s t : State} (h : ContactsCounted s) (f : Frame l s t)
    (key : Block.key ∉ l) (bus : Block.bus ∉ l) : ContactsCounted t :=
  h.congr (contact_of_frame f key) fun row w => by rw [f.bus bus]

/-- Two choices from a list that differ at one element differ by one in number. -/
theorem length_filter_differ {α : Type} {p q : α → Bool} {a : α} {l : List α} (once : l.Nodup) (mem : a ∈ l)
    (same : ∀ b, b ≠ a → p b = q b) :
    (l.filter p).length + (if q a then 1 else 0) = (l.filter q).length + (if p a then 1 else 0) := by
  induction l with
  | nil => cases mem
  | cons b l ih =>
    obtain ⟨new, rest⟩ := List.nodup_cons.mp once
    by_cases e : b = a
    · subst e
      have tail : l.filter p = l.filter q :=
        List.filter_congr fun c m => same c fun h => new (h ▸ m)
      cases hp : p b <;> cases hq : q b <;> simp [hp, hq, tail]
    · have step := ih rest ((List.mem_cons.mp mem).resolve_left fun h => e h.symm)
      cases hq : q b
      · simpa [same b e, hq] using step
      · simp only [List.filter_cons, same b e, hq, if_true, List.length_cons]
        omega

/-- Whether a contact counts on a bus for a wheel. -/
def State.countsOn (s : State) (k : KeyId) (row : BusRow) (w : Wheel) : Bool :=
  (contactsOf k).any (fun c => contactRow (keyManual k) c == row && s.contact k c == .closed (some w))

theorem keysOn_eq (s : State) (row : BusRow) (w : Wheel) :
    s.keysOn row w = (List.finRange 147).filter (fun k => State.countsOn s k row w) := rfl

theorem countsOn_iff {s : State} {k : KeyId} {c : ContactId} (mem : c ∈ contactsOf k) (w : Wheel) :
    State.countsOn s k (contactRow (keyManual k) c) w = true ↔ s.contact k c = .closed (some w) := by
  simp only [State.countsOn, List.any_eq_true, Bool.and_eq_true, beq_iff_eq]
  refine ⟨fun ⟨d, hd, row, closed⟩ => ?_, fun closed => ⟨c, mem, rfl, closed⟩⟩
  rwa [← ((contactRow_inj hd mem).mp row).2]

/-- One contact of a key changes: the counts that the law asks for change by that contact. -/
theorem keysOn_changed {s t : State} {k : KeyId} {c : ContactId} {x : Contact} (mem : c ∈ contactsOf k)
    (contact : ∀ j d, t.contact j d = if (j, d) = (k, c) then x else s.contact j d) (row : BusRow) (w : Wheel) :
    (t.keysOn row w).length
        + (if contactRow (keyManual k) c = row ∧ s.contact k c = .closed (some w) then 1 else 0)
      = (s.keysOn row w).length + (if contactRow (keyManual k) c = row ∧ x = .closed (some w) then 1 else 0) := by
  have others : ∀ j, j ≠ k → State.countsOn t j row w = State.countsOn s j row w := fun j ne => by
    unfold State.countsOn
    simp only [contact, Prod.mk.injEq, ne, false_and, if_false]
  have differ := length_filter_differ (List.nodup_finRange 147) (List.mem_finRange k) others
  rw [← keysOn_eq, ← keysOn_eq] at differ
  by_cases e : contactRow (keyManual k) c = row
  · subst e
    simpa only [countsOn_iff mem, contact, true_and, if_true] using differ
  · have same : State.countsOn t k row w = State.countsOn s k row w := by
      unfold State.countsOn
      refine congrArg (List.any (contactsOf k)) (funext fun d => ?_)
      by_cases same : d = c
      · rw [same, beq_eq_false_iff_ne.mpr e, Bool.false_and, Bool.false_and]
      · rw [contact, if_neg fun h => same (Prod.mk.inj h).2]
    rw [same] at differ
    rw [if_neg fun h => e h.1, if_neg fun h => e h.1]
    omega

theorem ContactsCounted.applyOpen {s : State} (h : ContactsCounted s) {k : KeyId} {c : ContactId}
    (mem : c ∈ contactsOf k) : ContactsCounted (s.applyOpen k c) := by
  have opened := applyOpen_opened k c s
  have contact : ∀ j d, (s.applyOpen k c).contact j d
      = if (j, d) = (k, c) then .opened else s.contact j d := fun j d => by
    rw [opened.contact]
    simp only [List.mem_singleton]
  refine ⟨fun row w => ?_, fun j d n => ?_⟩
  · have differ := keysOn_changed mem contact row w
    have one : s.openingCount [(k, c)] row w
        = if contactRow (keyManual k) c = row ∧ s.contact k c = .closed (some w) then 1 else 0 := by
      by_cases e : contactRow (keyManual k) c = row ∧ s.contact k c = .closed (some w) <;>
        simp [State.openingCount, e]
    rw [opened.counts, one, h.counts]
    simp only [reduceCtorEq, and_false, if_false] at differ
    omega
  · rw [contact]
    split
    · rfl
    · exact h.absent j d n

theorem ContactsCounted.openAll {l : List (KeyId × ContactId)} (mem : ∀ p ∈ l, p.2 ∈ contactsOf p.1) :
    ∀ {s : State}, ContactsCounted s → ContactsCounted (openAll l s) := by
  induction l with
  | nil => exact fun h => h
  | cons p l ih =>
    exact fun h => ih (fun q m => mem q (List.mem_cons_of_mem _ m)) (h.applyOpen (mem p List.mem_cons_self))

theorem makeUp_contact (m : Manual) (s : State) (k : KeyId) (c : ContactId) :
    (s.makeUp m).contact k c = s.contact k c := by
  rw [State.contact, State.makeUp, foldl_setKeyState]
  split <;> rfl

theorem ContactsCounted.releaseManual {s : State} (h : ContactsCounted s) (m : Manual) :
    ContactsCounted (s.releaseManual m) := by
  have opened : ContactsCounted (openedManual m s) :=
    (h.of_frame (withoutEntries_frame m s) (by decide) (by decide)).openAll fun p mem =>
      (mem_manualContacts.mp (show (p.1, p.2) ∈ manualContacts m from mem)).2
  have up : ContactsCounted ((openedManual m s).makeUp m) :=
    opened.congr (makeUp_contact m _) fun row w => by rw [(State.makeUp_frame m _).bus (by decide)]
  rw [releaseManual_eq]
  split
  · exact up.of_frame (State.manualFullyUp_frame _) (by decide) (by decide)
  · exact up

theorem ContactsCounted.release {s : State} (h : ContactsCounted s) (ms : List Manual) :
    ContactsCounted (s.release ms) := by
  unfold State.release
  induction ms generalizing s with
  | nil => exact h
  | cons m ms ih => exact ih (h.releaseManual m)

theorem contactsCounted_releaseStable : ReleaseStable ContactsCounted :=
  ⟨fun f h => h.of_frame f (by decide) (by decide), fun h => h.release _⟩

/-! ### The percussion envelope (R136) -/

/-- The envelope's law speaks of these four fields and of the UPPER keys. -/
theorem envelopeLawful_congr {s t : State} (h : s.EnvelopeLawful) (envelope : t.prc.envelope = s.prc.envelope)
    (enable : t.prc.enable = s.prc.enable) (level : t.prc.level = s.prc.level)
    (running : t.prc.halving.running = s.prc.halving.running) (up : t.manualUp .upper = s.manualUp .upper) :
    t.EnvelopeLawful := by
  obtain ⟨off, armed, held, decays, waits⟩ := h
  constructor
  · rw [envelope, enable]
    exact off
  · rw [envelope, up]
    exact armed
  · rw [envelope, up]
    exact held
  · rw [running, envelope, level]
    exact decays
  · rw [running, level]
    exact waits

theorem envelopeLawful_of_frame {l : List Block} {s t : State} (h : s.EnvelopeLawful) (f : Frame l s t)
    (key : Block.key ∉ l) (prc : Block.prc ∉ l) : t.EnvelopeLawful := by
  have same := f.prc prc
  exact envelopeLawful_congr h (by rw [same]) (by rw [same]) (by rw [same]) (by rw [same])
    (manualUp_of_frame f key _)

/-- An envelope with level 0 that does not decay, in a state that its percussion switch and its keys allow. -/
theorem envelopeLawful_silent {t : State} {p : Percussion} {e : EnvelopeState} (prc : t.prc = p.silent e)
    (off : e = .off ↔ p.enable = false) (armed : e = .armed → t.manualUp .upper = true)
    (held : e = .sounding ∨ e = .spent → t.manualUp .upper = false) : t.EnvelopeLawful := by
  constructor
  · rw [prc]
    exact off
  · rw [prc]
    exact armed
  · rw [prc]
    exact held
  · rw [prc]
    exact nofun
  · rw [prc]
    exact fun _ => rfl

/-- MANUAL FULLY UP of UPPER arms the envelope, unless it is OFF (R140). -/
theorem envelopeLawful_rearmed {s t : State} (h : s.EnvelopeLawful) (prc : t.prc = s.prc.rearmed)
    (up : t.manualUp .upper = true) : t.EnvelopeLawful := by
  by_cases off : s.prc.envelope = .off
  · rw [Percussion.rearmed, if_pos off] at prc
    refine ⟨by rw [prc]; exact h.off, fun _ => up, ?_, by rw [prc]; exact h.decays, by rw [prc]; exact h.waits⟩
    rw [prc, off]
    exact nofun
  · rw [Percussion.rearmed, if_neg off] at prc
    exact envelopeLawful_silent prc ⟨nofun, fun e => absurd (h.off.mpr e) off⟩ (fun _ => up) nofun

/-- PERCUSSION CONTACT CLOSED strikes a waiting envelope (R138). -/
theorem envelopeLawful_struck {s t : State} (h : s.EnvelopeLawful) (prc : t.prc = s.prc.struck)
    (up : t.manualUp .upper = s.manualUp .upper) : t.EnvelopeLawful := by
  by_cases waits : s.prc.envelope = .sounding ∧ s.prc.halving.running = false
  · rw [Percussion.struck, if_pos waits] at prc
    refine ⟨by rw [prc]; exact h.off, by rw [prc, up]; exact h.armed, by rw [prc, up]; exact h.held, fun _ => ?_, ?_⟩
    · rw [prc]
      refine ⟨waits.1, ?_⟩
      dsimp only
      split <;> decide
    · rw [prc]
      exact nofun
  · rw [Percussion.struck, if_neg waits] at prc
    exact envelopeLawful_congr h (by rw [prc]) (by rw [prc]) (by rw [prc]) (by rw [prc]) up

/-- Each manual of a release is all UP after it, and the others are as they were. -/
theorem manualUp_released {ms : List Manual} {s t : State} (r : ManualsReleased ms s t) (m : Manual) :
    t.manualUp m = if m ∈ ms then true else s.manualUp m := by
  split
  · next mem => exact manualUp_iff.mpr fun k e => r.state k (e ▸ mem)
  · next out =>
    refine manualUp_congr fun k e => ?_
    rw [State.keyState, r.kept k (e ▸ out), State.keyState]

theorem envelopeLawful_released {ms : List Manual} {s t : State} (h : s.EnvelopeLawful)
    (r : ManualsReleased ms s t) : t.EnvelopeLawful := by
  have up := manualUp_released r .upper
  have prc := r.prc
  by_cases arms : .upper ∈ ms ∧ s.manualUp .upper = false
  · rw [if_pos arms] at prc
    exact envelopeLawful_rearmed h prc (by rw [up, if_pos arms.1])
  · rw [if_neg arms] at prc
    refine envelopeLawful_congr h (by rw [prc]) (by rw [prc]) (by rw [prc]) (by rw [prc]) ?_
    rw [up]
    split
    · next mem => exact (Bool.eq_true_of_not_eq_false fun down => arms ⟨mem, down⟩).symm
    · rfl

theorem envelopeLawful_releaseStable : ReleaseStable State.EnvelopeLawful :=
  ⟨fun f h => envelopeLawful_of_frame h f (by decide) (by decide),
    fun {s} h => envelopeLawful_released h (release_released allManuals_nodup s)⟩

/-! ### The schedule and the keys (R48, R63) -/

/-- The laws of the keys, the schedule, the counts and the envelope together. -/
structure KeyLaws (s : State) : Prop where
  counts : s.CountsMatch
  keys : s.KeysLawful
  envelope : s.EnvelopeLawful

theorem KeyLaws.contacts {s : State} (h : KeyLaws s) : ContactsCounted s := ⟨h.counts.counts, h.keys.absent⟩

theorem keyLaws_of {s : State} (contacts : ContactsCounted s) (envelope : s.EnvelopeLawful)
    (schedule : s.ScheduleLawful) (up : ∀ k, s.keyState k = .up → ∀ c ∈ contactsOf k, s.contact k c = .opened)
    (down : ∀ k, s.keyState k = .down → ∀ c ∈ contactsOf k, s.contact k c ≠ .opened)
    (descending : ∀ k, s.keyState k = .descending → s.hasEntry k = true ∧
      ∀ c ∈ contactsOf k, s.contact k c = .opened → ∃ x ∈ s.seq.schedule, x.key = k ∧ x.contact = c)
    (ascending : ∀ k, s.keyState k = .ascending → s.hasEntry k = true ∧
      ∀ c ∈ contactsOf k, s.contact k c ≠ .opened → ∃ x ∈ s.seq.schedule, x.key = k ∧ x.contact = c) :
    KeyLaws s := by
  refine ⟨⟨contacts.counts, schedule⟩, ⟨fun k e c => ?_, down, descending, ascending, contacts.absent⟩, envelope⟩
  by_cases mem : c ∈ contactsOf k
  · exact up k e c mem
  · exact contacts.absent k c mem

theorem scheduleLawful_congr {s t : State} (h : s.ScheduleLawful) (schedule : t.seq.schedule = s.seq.schedule)
    (tick : t.seq.tickCount = s.seq.tickCount) (key : t.key.records = s.key.records) : t.ScheduleLawful := by
  obtain ⟨ordered, once, contact, state⟩ := h
  constructor
  · rw [schedule, tick]
    exact ordered
  · rw [schedule]
    exact once
  · simp only [schedule, State.contact, key]
    exact contact
  · simp only [schedule, State.keyState, key]
    exact state

theorem keysLawful_congr {s t : State} (h : s.KeysLawful) (schedule : t.seq.schedule = s.seq.schedule)
    (key : t.key.records = s.key.records) : t.KeysLawful := by
  obtain ⟨up, down, descending, ascending, absent⟩ := h
  constructor <;> simp only [State.contact, State.keyState, State.hasEntry, key, schedule]
  · exact up
  · exact down
  · exact descending
  · exact ascending
  · exact absent

theorem KeyLaws.congr {s t : State} (h : KeyLaws s) (key : t.key.records = s.key.records)
    (schedule : t.seq.schedule = s.seq.schedule) (tick : t.seq.tickCount = s.seq.tickCount)
    (count : ∀ row w, t.bus.countOf row w = s.bus.countOf row w) (envelope : t.EnvelopeLawful) : KeyLaws t :=
  ⟨⟨(h.contacts.congr (fun k c => by rw [State.contact, key, State.contact]) count).counts,
    scheduleLawful_congr h.counts.schedule schedule tick key⟩, keysLawful_congr h.keys schedule key, envelope⟩

theorem KeyLaws.of_frame {l : List Block} {s t : State} (h : KeyLaws s) (f : Frame l s t) (key : Block.key ∉ l)
    (seq : Block.seq ∉ l) (tick : Block.tick ∉ l) (bus : Block.bus ∉ l) (prc : Block.prc ∉ l) : KeyLaws t :=
  h.congr (f.key key) (f.seq seq) (f.tick tick) (fun row w => by rw [f.bus bus])
    (envelopeLawful_of_frame h.envelope f key prc)

/-- Every key of every manual is UP, with no entry: nothing is left to ask of the schedule and the keys. -/
theorem keyLaws_of_allReleased {s : State} (contacts : ContactsCounted s) (envelope : s.EnvelopeLawful)
    (released : ∀ m, s.ManualReleased m) : KeyLaws s := by
  have up : ∀ k, s.keyState k = .up := fun k => (released _ k rfl).1
  have empty : ∀ x, x ∉ s.seq.schedule := fun x mem => hasEntry_false.mp (released _ x.key rfl).2.2 x mem rfl
  have none : s.seq.schedule = [] := List.eq_nil_iff_forall_not_mem.mpr empty
  refine keyLaws_of contacts envelope ⟨?_, ?_, fun x mem => absurd mem (empty x), fun x mem => absurd mem (empty x)⟩
    (fun k _ => (released _ k rfl).2.1) (fun k e => ?_) (fun k e => ?_) (fun k e => ?_)
  · rw [none]
    exact List.Pairwise.nil
  · rw [none]
    exact List.nodup_nil
  all_goals
    rw [up k] at e
    cases e

theorem scheduleLawful_released {ms : List Manual} {s t : State} (h : s.ScheduleLawful) (r : ManualsReleased ms s t)
    (tick : t.seq.tickCount = s.seq.tickCount) : t.ScheduleLawful := by
  have entry : ∀ x ∈ t.seq.schedule, x ∈ s.seq.schedule ∧ t.key.records[x.key] = s.key.records[x.key] := by
    intro x mem
    rw [r.schedule, List.mem_filter] at mem
    exact ⟨mem.1, r.kept _ (by simpa using mem.2)⟩
  refine ⟨?_, ?_, fun x mem => ?_, fun x mem => ?_⟩
  · rw [tick, r.schedule]
    exact h.ordered.filter _
  · rw [r.schedule]
    exact h.once.sublist (List.filter_sublist.map _)
  · rw [State.contact, (entry x mem).2]
    exact h.contact x (entry x mem).1
  · rw [State.keyState, (entry x mem).2]
    exact h.state x (entry x mem).1

/-- A key that a release does not name keeps its entries. -/
theorem entries_released {ms : List Manual} {s t : State} (r : ManualsReleased ms s t) {k : KeyId}
    (out : keyManual k ∉ ms) (x : ScheduleEntry) (key : x.key = k) : x ∈ t.seq.schedule ↔ x ∈ s.seq.schedule := by
  rw [r.schedule, List.mem_filter, key]
  simp [out]

theorem KeyLaws.released {ms : List Manual} {s t : State} (h : KeyLaws s) (r : ManualsReleased ms s t)
    (tick : t.seq.tickCount = s.seq.tickCount) (contacts : ContactsCounted t) : KeyLaws t := by
  have named : ∀ {k}, t.keyState k ≠ .up → keyManual k ∉ ms := fun n mem => n (r.state _ mem)
  have entry : ∀ {k}, keyManual k ∉ ms → t.hasEntry k = s.hasEntry k := fun {k} out => by
    rw [Bool.eq_iff_iff, hasEntry_iff, hasEntry_iff]
    exact exists_congr fun x => and_congr_left fun e => entries_released r out x e
  have pending : ∀ {k c}, keyManual k ∉ ms → (∃ x ∈ s.seq.schedule, x.key = k ∧ x.contact = c) →
      ∃ x ∈ t.seq.schedule, x.key = k ∧ x.contact = c := fun out ⟨x, mem, key, contact⟩ =>
    ⟨x, (entries_released r out x key).mpr mem, key, contact⟩
  refine keyLaws_of contacts (envelopeLawful_released h.envelope r) (scheduleLawful_released h.counts.schedule r tick)
    (fun k e c mem => ?_) (fun k e => ?_) (fun k e => ?_) (fun k e => ?_)
  · by_cases m : keyManual k ∈ ms
    · rw [r.contact k c m, if_pos mem]
    · rw [State.keyState, r.kept k m] at e
      rw [State.contact, r.kept k m]
      exact h.keys.up k e c
  · have m := named (by rw [e]; decide)
    simp only [State.keyState, State.contact, r.kept k m] at e ⊢
    exact h.keys.down k e
  · have m := named (by rw [e]; decide)
    rw [entry m]
    simp only [State.keyState, State.contact, r.kept k m] at e ⊢
    obtain ⟨has, all⟩ := h.keys.descending k e
    exact ⟨has, fun c mem opened => pending m (all c mem opened)⟩
  · have m := named (by rw [e]; decide)
    rw [entry m]
    simp only [State.keyState, State.contact, r.kept k m] at e ⊢
    obtain ⟨has, all⟩ := h.keys.ascending k e
    exact ⟨has, fun c mem closed => pending m (all c mem closed)⟩

theorem KeyLaws.release {s : State} (h : KeyLaws s) {ms : List Manual} (once : ms.Nodup) : KeyLaws (s.release ms) :=
  h.released (release_released once s) ((s.release_frame ms).tick (by decide)) (h.contacts.release ms)

theorem keyLaws_releaseStable : ReleaseStable KeyLaws :=
  ⟨fun f h => h.of_frame f (by decide) (by decide) (by decide) (by decide) (by decide),
    fun h => h.release allManuals_nodup⟩

/-- With every key idle and every count 0, only the envelope has a law to keep. -/
theorem keyLaws_of_idle {s : State} (idle : KeysIdle s) (count : ∀ row w, s.bus.countOf row w = 0)
    (envelope : s.EnvelopeLawful) : KeyLaws s := by
  refine keyLaws_of_allReleased ⟨fun row w => ?_, fun k c _ => idle.contact k c⟩ envelope fun m k _ =>
    ⟨by rw [State.keyState, idle.record]; rfl, fun c _ => idle.contact k c,
      hasEntry_false.mpr (by rw [idle.schedule]; exact nofun)⟩
  rw [count, State.keysOn, List.filter_eq_nil_iff.mpr]
  · rfl
  · simp [idle.contact]

end Sys2Proof.Machine.Keys
end

section
/-!
PROOFS. Contacts that close and open in a key event: what a demand, one transition and several transitions of a key
come to, unless a RELEASE ends the event (04_contact_sequencing.md 4.4 to 4.6, 05_the_bus_matrix.md R77 to R79;
assumption log 14).
-/

namespace Sys2Proof.Machine.Keys

open Sys2Proof.Machine.Requests

/-! ### Reports that release the keys or leave them alone (R181, R182) -/

/-- Every key of the three manuals has been released. -/
abbrev AllReleased (s : State) : Prop := ∀ m, s.ManualReleased m

theorem ManualsReleased.allReleased {s t : State} (r : ManualsReleased allManuals s t) : AllReleased t :=
  fun m => r.released.keys m (mem_allManuals m)

theorem allReleased_of_frame {l : List Block} {s t : State} (h : AllReleased s) (f : Frame l s t)
    (key : Block.key ∉ l) (seq : Block.seq ∉ l) : AllReleased t := by
  intro m k e
  obtain ⟨up, opened, entry⟩ := h m k e
  refine ⟨by rw [keyState_of_frame f key, up], fun c mem => by rw [contact_of_frame f key, opened c mem], ?_⟩
  rw [State.hasEntry, f.seq seq, ← State.hasEntry, entry]

theorem allReleased_releaseStable : ReleaseStable AllReleased :=
  ⟨fun f h => allReleased_of_frame h f (by decide) (by decide),
    fun {s} _ => ManualsReleased.allReleased (release_released allManuals_nodup s)⟩

/-- From s to t a fault kind has been reported and no key released: no record but its own has changed. -/
structure Reported (k : FaultKind) (s t : State) : Prop where
  frame : Frame summaryBlocks s t
  others : ∀ j, j ≠ k → t.record j = s.record j

theorem occurred_reported {k : FaultKind} {s t : State} (o : Occurred k s t) (quiet : ¬ s.WouldRelease k) :
    Reported k s t ∧ t.record k = (s.record k).occurred (s.faultMode k) (s.faultAction k) := by
  have frame := o.kept quiet
  have record : ∀ j, t.record j
      = if j = k then (s.record j).occurred (s.faultMode j) (s.faultAction j) else s.record j := fun j => by
    rw [o.records, frame.eng (by decide)]
    exact if_neg fun c => c.2.1 c.2.2
  exact ⟨⟨frame, fun j n => by rw [record, if_neg n]⟩, by rw [record, if_pos rfl]⟩

theorem conditionPresent_reported (k : FaultKind) (s : State) :
    ConditionReported k s (s.conditionPresent k) := by
  unfold State.conditionPresent
  dsimp only
  refine ⟨fun present => if_pos present, fun absent init => ?_, fun absent ready => ?_⟩
  · rw [if_neg (by simp [absent])]
    exact if_pos init
  · rw [if_neg (by simp [absent])]
    rw [show (if (s.setRecord k { s.record k with present := true }).req.opState = .initializing then _ else _) = _
      from if_neg ready]
    exact asEvent_occurred k ready

theorem conditionPresent_cases (k : FaultKind) (s : State) :
    Reported k s (s.conditionPresent k) ∨ (s.faultAction k = .release ∧ AllReleased (s.conditionPresent k)) := by
  obtain ⟨present, init, ready⟩ := conditionPresent_reported k s
  have noted : Reported k s (s.withCondition k) :=
    ⟨(s.setRecord_frame k _).mono (by decide), fun j n => by rw [State.withCondition, record_setRecord, if_neg n]⟩
  by_cases p : (s.record k).present = true
  · rw [present p]
    exact .inl ⟨.refl _ _, fun _ _ => rfl⟩
  · rw [Bool.not_eq_true] at p
    by_cases i : s.req.opState = .initializing
    · rw [init p i]
      exact .inl noted
    · have o := ready p i
      by_cases w : (s.withCondition k).WouldRelease k
      · exact .inr ⟨w.2.2, fun m => (o.released w).1.keys m (mem_allManuals m)⟩
      · obtain ⟨r, _⟩ := occurred_reported o w
        exact .inl ⟨noted.frame.trans r.frame, fun j n => (r.others j n).trans (noted.others j n)⟩

/-! ### A demand that rises (R79, R100, R101, R110) -/

/-- From s to t the Engine Cache has been asked for an engine and no key has been released. -/
structure DemandMade (s t : State) : Prop where
  frame : Frame quietBlocks s t
  collapses : t.cnt.collapses = s.cnt.collapses
  records : ∀ j, j ≠ .engineShortage → t.record j = s.record j

theorem countServed_collapses (o : EngineCache.Served) (c : Counters) : (countServed o c).collapses = c.collapses := by
  cases o <;> rfl

theorem demandUp_cases (w : Wheel) (s : State) : DemandMade s (s.demandUp w) ∨
    (s.faultAction .engineShortage = .release ∧ AllReleased (s.demandUp w)) := by
  have served : DemandMade s ((s.setEng (s.eng.demandUp w).1).count (countServed (s.eng.demandUp w).2)) :=
    ⟨(Frame.setEng (by decide) _ _).trans ((State.count_frame _ _).mono (by decide)), countServed_collapses _ _,
      fun _ _ => rfl⟩
  unfold State.demandUp
  dsimp only
  split
  · rcases conditionPresent_cases .engineShortage
      ((s.setEng (s.eng.demandUp w).1).count (countServed (s.eng.demandUp w).2)) with r | r
    · exact .inl ⟨served.frame.trans (r.frame.mono (by decide)),
        by rw [r.frame.cnt (by decide), served.collapses], fun j n => (r.others j n).trans (served.records j n)⟩
    · exact .inr r
  · exact .inl served

/-! ### One transition (R68 to R70) -/

/-- What a contact becomes. -/
def movedContact (s : State) (k : KeyId) : Transition → ContactId → Contact
  | .close, c => .closed (s.assignedWheel k c)
  | .open_, _ => .opened

/-- How many of some contacts of a key count on a bus for a wheel when they close (R76). -/
def closingCount (s : State) (k : KeyId) (l : List ContactId) (row : BusRow) (w : Wheel) : Nat :=
  (l.filter (fun c => contactRow (keyManual k) c == row && s.assignedWheel k c == some w)).length

/-- What a count becomes when some contacts of a key close or open (R77). -/
def movedCount (s : State) (k : KeyId) (kind : Transition) (l : List ContactId) (row : BusRow) (w : Wheel) : Nat :=
  match kind with
  | .close => s.bus.countOf row w + closingCount s k l row w
  | .open_ => s.bus.countOf row w - s.openingCount (l.map fun c => (k, c)) row w

/-- The click pulses that some contacts of a key start when they close or open (R68, R70, R88). -/
def movedClicks (s : State) (k : KeyId) (kind : Transition) (l : List ContactId) : List ClickPulse :=
  match kind with
  | .close => (l.filter fun c => (s.assignedWheel k c).isSome).map fun _ => ⟨keyManual k, s.seq.tickCount, true⟩
  | .open_ => s.openingClicks (l.map fun c => (k, c))

/-- The envelope after some contacts have closed or opened: CP strikes it when it closes (R69, R138). -/
def movedPrc (kind : Transition) (l : List ContactId) (p : Percussion) : Percussion :=
  if kind = .close ∧ 9 ∈ l then p.struck else p

/-- From s to t some contacts of a key have closed or opened, in that order, and no key has been released; the
schedule is not spoken of. -/
structure Transitions (kind : Transition) (k : KeyId) (l : List ContactId) (s t : State) : Prop where
  contact : ∀ j d, t.contact j d = if j = k ∧ d ∈ l then movedContact s k kind d else s.contact j d
  state : ∀ j : KeyId, (t.key.records[j]).state = (s.key.records[j]).state ∧
    (t.key.records[j]).travel = (s.key.records[j]).travel
  counts : ∀ row w, t.bus.countOf row w = movedCount s k kind l row w
  clicks : t.bus.clicks = clicksWith s.bus.clicks (movedClicks s k kind l)
  prc : t.prc = movedPrc kind l s.prc
  collapses : t.cnt.collapses = s.cnt.collapses
  records : ∀ j, j ≠ .engineShortage → t.record j = s.record j
  frame : Frame closeBlocks s t

/-- What leaves the keys, the busses, the envelope and the Fault Unit alone is no transition. -/
theorem transitions_nil (kind : Transition) (k : KeyId) {s t : State} (f : Frame [.seq] s t) :
    Transitions kind k [] s t := by
  refine ⟨fun j d => ?_, fun j => ?_, fun row w => ?_, ?_, ?_, ?_, fun j _ => ?_, f.mono (by decide)⟩
  · rw [contact_of_frame f (by decide), if_neg fun h => nomatch h.2]
  · rw [f.key (by decide)]
    exact ⟨rfl, rfl⟩
  · rw [f.bus (by decide)]
    cases kind <;> rfl
  · rw [f.bus (by decide)]
    cases kind <;> rfl
  · rw [f.prc (by decide), movedPrc, if_neg fun h => nomatch h.2]
  · rw [f.cnt (by decide)]
  · rw [State.record, f.flt (by decide), State.record]

theorem struck_switches (p : Percussion) : p.struck.enable = p.enable ∧ p.struck.third = p.third := by
  unfold Percussion.struck
  split <;> exact ⟨rfl, rfl⟩

theorem movedPrc_switches (kind : Transition) (l : List ContactId) (p : Percussion) :
    (movedPrc kind l p).enable = p.enable ∧ (movedPrc kind l p).third = p.third := by
  unfold movedPrc
  split
  · exact struck_switches p
  · exact ⟨rfl, rfl⟩

/-- The wheel that a CLOSE binds is that of the tables and of two percussion switches (R68, R69). -/
theorem assignedWheel_congr {s t : State} (tab : t.tab = s.tab) (enable : t.prc.enable = s.prc.enable)
    (third : t.prc.third = s.prc.third) (k : KeyId) (c : ContactId) : t.assignedWheel k c = s.assignedWheel k c := by
  simp only [State.assignedWheel, tab, enable, third]

namespace Transitions

variable {kind : Transition} {k : KeyId} {a b : List ContactId} {s t u : State}

theorem assignedWheel (x : Transitions kind k a s t) (c : ContactId) : t.assignedWheel k c = s.assignedWheel k c :=
  assignedWheel_congr (x.frame.tab (by decide)) (by rw [x.prc, (movedPrc_switches _ _ _).1])
    (by rw [x.prc, (movedPrc_switches _ _ _).2]) k c

theorem movedContact (x : Transitions kind k a s t) (c : ContactId) :
    Keys.movedContact t k kind c = Keys.movedContact s k kind c := by
  cases kind with
  | close => simp only [Keys.movedContact, x.assignedWheel]
  | open_ => rfl

/-- The contacts that have still to move are as they were. -/
theorem rest (x : Transitions kind k a s t) (apart : ∀ c ∈ b, c ∉ a) :
    ∀ p ∈ b.map (fun c => (k, c)), t.contact p.1 p.2 = s.contact p.1 p.2 := by
  simp only [List.mem_map]
  rintro _ ⟨c, mem, rfl⟩
  rw [x.contact, if_neg fun h => apart c mem h.2]

/-- Transitions made in two goes, of two lists that share no contact. -/
theorem append (x : Transitions kind k a s t) (y : Transitions kind k b t u) (apart : ∀ c ∈ b, c ∉ a) :
    Transitions kind k (a ++ b) s u := by
  have tick : t.seq.tickCount = s.seq.tickCount := x.frame.tick (by decide)
  refine ⟨fun j d => ?_, fun j => ⟨(y.state j).1.trans (x.state j).1, (y.state j).2.trans (x.state j).2⟩,
    fun row w => ?_, ?_, ?_, y.collapses.trans x.collapses, fun j n => (y.records j n).trans (x.records j n),
    x.frame.trans y.frame⟩
  · rw [y.contact, x.contact, x.movedContact]
    by_cases e : j = k
    · by_cases m : d ∈ b <;> simp [e, m]
    · simp [e]
  · rw [y.counts]
    cases kind with
    | close =>
      simp only [movedCount, closingCount, x.counts, x.assignedWheel, List.filter_append, List.length_append]
      omega
    | open_ =>
      simp only [movedCount, x.counts, openingCount_congr (x.rest apart), List.map_append, openingCount_append]
      omega
  · rw [y.clicks, x.clicks, clicksWith_append]
    cases kind with
    | close => simp only [movedClicks, x.assignedWheel, tick, List.filter_append, List.map_append]
    | open_ => simp only [movedClicks, openingClicks_congr (x.rest apart) tick, List.map_append, openingClicks_append]
  · rw [y.prc, x.prc]
    unfold movedPrc
    by_cases m : 9 ∈ b
    · simp [m, apart 9 m]
    · simp [m]

end Transitions

theorem applyOpen_transitions (k : KeyId) (c : ContactId) (s : State) :
    Transitions .open_ k [c] s (s.applyOpen k c) := by
  have opened := applyOpen_opened k c s
  have frame := s.applyOpen_frame k c
  have shortage := opened.eases.shortage
  refine ⟨fun j d => ?_, opened.state, opened.counts, opened.clicks, ?_, ?_, fun j n => ?_, frame.mono (by decide)⟩
  · simp only [opened.contact, List.mem_singleton, Prod.mk.injEq, movedContact]
  · rw [frame.prc (by decide), movedPrc, if_neg fun h => nomatch h.1]
  · rw [frame.cnt (by decide)]
  · rw [State.record, shortage]
    split
    · rw [← State.record, State.withoutCondition, record_setRecord, if_neg n]
    · rfl

/-- A CLOSE on a wheel before the Engine Cache hears of it: the contact is closed, its count and its demand have
gone up (R68, R77, R78). -/
def countedOn (k : KeyId) (c : ContactId) (w : Wheel) (s : State) : State :=
  (s.setContact k c (.closed (some w))).setBus
    (s.bus.setCount (contactRow (keyManual k) c) w (s.bus.countOf (contactRow (keyManual k) c) w + 1)
      (s.bus.demand[w] + 1))

/-- The Engine Cache hears of it if the demand was 0 (R79). -/
def demandedOn (k : KeyId) (c : ContactId) (w : Wheel) (s : State) : State :=
  if s.bus.demand[w] = 0 then (countedOn k c w s).demandUp w else countedOn k c w s

theorem closeOn_none (k : KeyId) (c : ContactId) (s : State) :
    s.closeOn k c none = s.setContact k c (.closed none) := rfl

theorem closeOn_some (k : KeyId) (c : ContactId) (w : Wheel) (s : State) :
    s.closeOn k c (some w) = (demandedOn k c w s).startClick (keyManual k) true := rfl

theorem countedOn_frame (k : KeyId) (c : ContactId) (w : Wheel) (s : State) :
    Frame [.key, .bus] s (countedOn k c w s) :=
  ((s.setContact_frame _ _ _).mono (by decide)).trans (Frame.setBus (by decide) _ _)

theorem countedOn_countOf (k : KeyId) (c : ContactId) (w : Wheel) (s : State) (row : BusRow) (v : Wheel) :
    (countedOn k c w s).bus.countOf row v
      = s.bus.countOf row v + if contactRow (keyManual k) c = row ∧ w = v then 1 else 0 := by
  have set := countOf_setCount s.bus (contactRow (keyManual k) c) row w v
    (s.bus.countOf (contactRow (keyManual k) c) w + 1) (s.bus.demand[w] + 1)
  rw [countedOn, State.setBus_bus, set]
  by_cases e : row = contactRow (keyManual k) c ∧ v = w
  · rw [if_pos e, if_pos ⟨e.1.symm, e.2.symm⟩, e.1, e.2]
  · rw [if_neg e, if_neg fun h => e ⟨h.1.symm, h.2.symm⟩]
    rfl

theorem demandedOn_cases (k : KeyId) (c : ContactId) (w : Wheel) (s : State) :
    DemandMade (countedOn k c w s) (demandedOn k c w s) ∨
      (s.faultAction .engineShortage = .release ∧ AllReleased (demandedOn k c w s)) := by
  unfold demandedOn
  split
  · exact demandUp_cases w (countedOn k c w s)
  · exact .inl ⟨.refl _ _, rfl, fun _ _ => rfl⟩

/-- From s to t a contact has closed on a wheel or none; CP has not yet struck. -/
structure ClosedOn (k : KeyId) (c : ContactId) (b : Option Wheel) (s t : State) : Prop where
  contact : ∀ j d, t.contact j d = if (j, d) = (k, c) then .closed b else s.contact j d
  state : ∀ j : KeyId, (t.key.records[j]).state = (s.key.records[j]).state ∧
    (t.key.records[j]).travel = (s.key.records[j]).travel
  counts : ∀ row w, t.bus.countOf row w
    = s.bus.countOf row w + if contactRow (keyManual k) c = row ∧ b = some w then 1 else 0
  clicks : t.bus.clicks
    = clicksWith s.bus.clicks (if b.isSome then [⟨keyManual k, s.seq.tickCount, true⟩] else [])
  collapses : t.cnt.collapses = s.cnt.collapses
  records : ∀ j, j ≠ .engineShortage → t.record j = s.record j
  frame : Frame (.key :: .bus :: quietBlocks) s t

theorem closeOn_cases (k : KeyId) (c : ContactId) (b : Option Wheel) (s : State) :
    ClosedOn k c b s (s.closeOn k c b) ∨
      (s.faultAction .engineShortage = .release ∧ AllReleased (s.closeOn k c b)) := by
  cases b with
  | none =>
    rw [closeOn_none]
    exact .inl ⟨fun j d => setContact_contact s k j c d _, fun j => setContact_state s k j c _,
      fun row w => by simp; rfl, by rw [if_neg (by decide)]; rfl, rfl, fun _ _ => rfl,
      (s.setContact_frame _ _ _).mono (by decide)⟩
  | some w =>
    rw [closeOn_some]
    have click := (demandedOn k c w s).startClick_frame (keyManual k) true
    rcases demandedOn_cases k c w s with d | ⟨release, all⟩
    · have key : ((demandedOn k c w s).startClick (keyManual k) true).key.records
          = (s.setContact k c (.closed (some w))).key.records := d.frame.key (by decide)
      refine .inl ⟨fun j e => ?_, fun j => ?_, fun row v => ?_, ?_, d.collapses, d.records,
        (((countedOn_frame k c w s).mono (by decide)).trans (d.frame.mono (by decide))).trans
          (click.mono (by decide))⟩
      · rw [State.contact, key]
        exact setContact_contact s k j c e _
      · rw [key]
        exact setContact_state s k j c _
      · have counted := countedOn_countOf k c w s row v
        rw [← d.frame.bus (by decide)] at counted
        simp only [Option.some.injEq]
        exact counted
      · rw [startClick_clicks, d.frame.bus (by decide), d.frame.tick (by decide)]
        rfl
    · exact .inr ⟨release, allReleased_of_frame all click (by decide) (by decide)⟩

/-- A CLOSE: its contact, its count, its click, and the strike of CP, unless ENGINE_SHORTAGE releases the keys (R68,
R69). -/
theorem applyClose_cases (k : KeyId) (c : ContactId) (s : State) :
    (Transitions .close k [c] s (s.applyClose k c) ∧ (s.applyClose k c).seq.schedule = s.seq.schedule) ∨
      (s.faultAction .engineShortage = .release ∧ AllReleased (s.applyClose k c)) := by
  have strikes : Frame [.prc] (s.closeOn k c (s.wheelToBind k c)) (s.applyClose k c) := by
    unfold State.applyClose
    dsimp only
    split
    · exact Frame.setPrc (by decide) _ _
    · exact .refl _ _
  rcases closeOn_cases k c (s.wheelToBind k c) s with x | ⟨release, all⟩
  · have prc : (s.applyClose k c).prc = movedPrc .close [c] s.prc := by
      have nine : c.val = 9 ↔ (9 : ContactId) ∈ [c] := by
        rw [List.mem_singleton, Fin.ext_iff]
        exact eq_comm
      unfold State.applyClose movedPrc
      dsimp only
      simp only [← nine, true_and]
      split
      · rw [State.setPrc_prc, Percussion.contactClosed_eq_struck, x.frame.prc (by decide)]
      · exact x.frame.prc (by decide)
    refine .inl ⟨⟨fun j d => ?_, fun j => ?_, fun row w => ?_, ?_, prc, ?_, fun j n => ?_,
      (x.frame.mono (by decide)).trans (strikes.mono (by decide))⟩,
      (strikes.seq (by decide)).trans (x.frame.seq (by decide))⟩
    · rw [contact_of_frame strikes (by decide), x.contact]
      by_cases e : j = k ∧ d = c
      · rw [if_pos (by rw [e.1, e.2]), if_pos ⟨e.1, List.mem_singleton.mpr e.2⟩, e.2]
        rfl
      · rw [if_neg fun h => e (Prod.mk.inj h), if_neg fun h => e ⟨h.1, List.mem_singleton.mp h.2⟩]
    · rw [strikes.key (by decide)]
      exact x.state j
    · rw [strikes.bus (by decide), x.counts]
      by_cases e : contactRow (keyManual k) c = row ∧ s.wheelToBind k c = some w
      · rw [if_pos e]
        rw [State.wheelToBind_eq_assignedWheel] at e
        simp [movedCount, closingCount, e]
      · rw [if_neg e]
        rw [State.wheelToBind_eq_assignedWheel] at e
        simp [movedCount, closingCount, e]
    · rw [strikes.bus (by decide), x.clicks]
      rw [State.wheelToBind_eq_assignedWheel]
      cases assigned : s.assignedWheel k c <;> simp [movedClicks, assigned]
    · rw [strikes.cnt (by decide), x.collapses]
    · rw [State.record, strikes.flt (by decide), ← State.record, x.records j n]
  · exact .inr ⟨release, allReleased_of_frame all strikes (by decide) (by decide)⟩

/-- A transition of either direction. -/
theorem applyTransition_cases (k : KeyId) (c : ContactId) (kind : Transition) (s : State) :
    (Transitions kind k [c] s (s.applyTransition k c kind) ∧
        (s.applyTransition k c kind).seq.schedule = s.seq.schedule) ∨
      (kind = .close ∧ s.faultAction .engineShortage = .release ∧ AllReleased (s.applyTransition k c kind)) := by
  cases kind with
  | close => exact (applyClose_cases k c s).imp_right fun r => ⟨rfl, r⟩
  | open_ => exact .inl ⟨applyOpen_transitions k c s, (s.applyOpen_frame k c).seq (by decide)⟩

end Sys2Proof.Machine.Keys
end

section
/-!
PROOFS. Key events: which transitions are placed, which are made at once, and what the event comes to unless a
RELEASE ends it (03_keys_and_the_key_map.md 3.4 to 3.6, 04_contact_sequencing.md 4.2 to 4.4; assumption log 14).
-/

namespace Sys2Proof.Machine.Keys

open Sys2Proof.Machine.Requests

/-! ### Which transitions find a place (R65, R66) -/

/-- The contacts with an offset that find one of n places. -/
def placedOf (f : ContactId → Nat) (n : Nat) (cs : List ContactId) : List ContactId :=
  (cs.filter (fun c => f c != 0)).take n

/-- The contacts with an offset that find none. -/
def collapsedOf (f : ContactId → Nat) (n : Nat) (cs : List ContactId) : List ContactId :=
  (cs.filter (fun c => f c != 0)).drop n

/-- The contacts whose transitions are made at once. -/
def appliedOf (f : ContactId → Nat) (n : Nat) (cs : List ContactId) : List ContactId :=
  cs.filter (fun c => !(placedOf f n cs).contains c)

theorem scheduled_eq (s : State) (k : KeyId) (travel : BitVec 6) (kind : Transition) :
    s.scheduled k travel kind
      = placedOf (s.offsetOf k travel kind) (s.placesFor k kind) (s.keyContacts k (kind == .open_)) := rfl

theorem collapsed_eq (s : State) (k : KeyId) (travel : BitVec 6) (kind : Transition) :
    s.collapsed k travel kind
      = collapsedOf (s.offsetOf k travel kind) (s.placesFor k kind) (s.keyContacts k (kind == .open_)) := rfl

theorem atOnce_eq (s : State) (k : KeyId) (travel : BitVec 6) (kind : Transition) :
    s.atOnce k travel kind
      = appliedOf (s.offsetOf k travel kind) (s.placesFor k kind) (s.keyContacts k (kind == .open_)) := rfl

section
variable {f : ContactId → Nat} {n : Nat} {c : ContactId} {cs : List ContactId}

theorem mem_of_placed (h : c ∈ placedOf f n cs) : c ∈ cs ∧ f c ≠ 0 := by
  simpa using List.mem_of_mem_take h

theorem appliedOf_skip (new : c ∉ placedOf f n (c :: cs)) (same : placedOf f n (c :: cs) = placedOf f n cs) :
    appliedOf f n (c :: cs) = c :: appliedOf f n cs := by
  have none : (placedOf f n (c :: cs)).contains c = false := by simpa using new
  rw [appliedOf, List.filter_cons, none, same]
  rfl

theorem plan_atOnce (zero : f c = 0) : placedOf f n (c :: cs) = placedOf f n cs ∧
    collapsedOf f n (c :: cs) = collapsedOf f n cs ∧ appliedOf f n (c :: cs) = c :: appliedOf f n cs := by
  have skip : (c :: cs).filter (fun c => f c != 0) = cs.filter (fun c => f c != 0) := by simp [zero]
  have same : placedOf f n (c :: cs) = placedOf f n cs := by rw [placedOf, skip, placedOf]
  exact ⟨same, by rw [collapsedOf, skip, collapsedOf], appliedOf_skip (fun m => (mem_of_placed m).2 zero) same⟩

theorem plan_placed (offset : f c ≠ 0) (new : c ∉ cs) : placedOf f (n + 1) (c :: cs) = c :: placedOf f n cs ∧
    collapsedOf f (n + 1) (c :: cs) = collapsedOf f n cs ∧ appliedOf f (n + 1) (c :: cs) = appliedOf f n cs := by
  have keep : (c :: cs).filter (fun c => f c != 0) = c :: cs.filter (fun c => f c != 0) := by simp [offset]
  have placed : placedOf f (n + 1) (c :: cs) = c :: placedOf f n cs := by rw [placedOf, keep]; rfl
  refine ⟨placed, by rw [collapsedOf, keep]; rfl, ?_⟩
  rw [appliedOf, placed, List.filter_cons, if_neg (by simp)]
  refine List.filter_congr fun d mem => ?_
  have other : d ≠ c := fun e => new (e ▸ mem)
  simp [other]

theorem plan_collapsed (offset : f c ≠ 0) : placedOf f 0 (c :: cs) = [] ∧ placedOf f 0 cs = [] ∧
    collapsedOf f 0 (c :: cs) ≠ [] ∧ appliedOf f 0 (c :: cs) = c :: appliedOf f 0 cs := by
  have none : ∀ l, placedOf f 0 l = [] := fun _ => List.take_zero
  refine ⟨none _, none _, ?_, appliedOf_skip (by rw [none]; exact List.not_mem_nil) (by rw [none, none])⟩
  simp [collapsedOf, offset]

end

/-! ### The transitions of an event one after another -/

/-- From s, with a mark b, to r the transitions of some contacts have been placed or made, and no key has been
released. -/
structure Placed (kind : Transition) (k : KeyId) (travel : BitVec 6) (cs : List ContactId) (s : State) (b : Bool)
    (r : State × Bool) : Prop where
  made : Transitions kind k (appliedOf (s.offsetOf k travel kind) (256 - s.seq.schedule.length) cs) s r.1
  schedule : r.1.seq.schedule =
    ((placedOf (s.offsetOf k travel kind) (256 - s.seq.schedule.length) cs).map (s.entryFor k travel kind)).foldl
      (withEntry s.seq.tickCount) s.seq.schedule
  mark : r.2 = (b || !(collapsedOf (s.offsetOf k travel kind) (256 - s.seq.schedule.length) cs).isEmpty)

theorem offsetOf_congr {s t : State} (tab : t.tab = s.tab) (k : KeyId) (travel : BitVec 6) (kind : Transition) :
    t.offsetOf k travel kind = s.offsetOf k travel kind := by
  funext c
  simp only [State.offsetOf, tab]

theorem entryFor_congr {s t : State} (tab : t.tab = s.tab) (tick : t.seq.tickCount = s.seq.tickCount) (k : KeyId)
    (travel : BitVec 6) (kind : Transition) : t.entryFor k travel kind = s.entryFor k travel kind := by
  funext c
  simp only [State.entryFor, offsetOf_congr tab, tick]

/-- One transition that is made at once, and then the others. -/
theorem Placed.cons_made {kind : Transition} {k : KeyId} {travel : BitVec 6} {c : ContactId} {cs : List ContactId}
    {s t : State} {b b' : Bool} {r : State × Bool} (made : Transitions kind k [c] s t)
    (schedule : t.seq.schedule = s.seq.schedule) (rest : Placed kind k travel cs t b' r) (new : c ∉ cs)
    (plan : placedOf (s.offsetOf k travel kind) (256 - s.seq.schedule.length) (c :: cs)
        = placedOf (s.offsetOf k travel kind) (256 - s.seq.schedule.length) cs ∧
      appliedOf (s.offsetOf k travel kind) (256 - s.seq.schedule.length) (c :: cs)
        = c :: appliedOf (s.offsetOf k travel kind) (256 - s.seq.schedule.length) cs)
    (mark : (b' || !(collapsedOf (s.offsetOf k travel kind) (256 - s.seq.schedule.length) cs).isEmpty)
      = (b || !(collapsedOf (s.offsetOf k travel kind) (256 - s.seq.schedule.length) (c :: cs)).isEmpty)) :
    Placed kind k travel (c :: cs) s b r := by
  have tab : t.tab = s.tab := made.frame.tab (by decide)
  have tick : t.seq.tickCount = s.seq.tickCount := made.frame.tick (by decide)
  obtain ⟨made', schedule', mark'⟩ := rest
  rw [offsetOf_congr tab, schedule] at made' schedule' mark'
  rw [entryFor_congr tab tick, tick] at schedule'
  refine ⟨?_, by rw [schedule', plan.1], by rw [mark', mark]⟩
  rw [plan.2]
  exact made.append made' fun d mem e => new ((List.mem_singleton.mp e) ▸ (List.mem_filter.mp mem).1)

/-- One transition that is placed, and then the others. -/
theorem Placed.cons_placed {kind : Transition} {k : KeyId} {travel : BitVec 6} {c : ContactId}
    {cs : List ContactId} {s t : State} {b : Bool} {r : State × Bool} (frame : Frame [.seq] s t)
    (schedule : t.seq.schedule = withEntry s.seq.tickCount s.seq.schedule (s.entryFor k travel kind c))
    (length : t.seq.schedule.length = s.seq.schedule.length + 1) (rest : Placed kind k travel cs t b r)
    (room : s.seq.schedule.length < 256) (offset : s.offsetOf k travel kind c ≠ 0) (new : c ∉ cs) :
    Placed kind k travel (c :: cs) s b r := by
  have tab : t.tab = s.tab := frame.tab (by decide)
  have tick : t.seq.tickCount = s.seq.tickCount := frame.tick (by decide)
  obtain ⟨n, places⟩ : ∃ n, 256 - s.seq.schedule.length = n + 1 := ⟨255 - s.seq.schedule.length, by omega⟩
  have fewer : 256 - t.seq.schedule.length = n := by omega
  obtain ⟨placed, collapsed, applied⟩ := plan_placed (n := n) offset new
  obtain ⟨made', schedule', mark'⟩ := rest
  rw [offsetOf_congr tab, fewer] at made' schedule' mark'
  rw [entryFor_congr tab tick, tick, schedule] at schedule'
  refine ⟨?_, ?_, ?_⟩
  · rw [places, applied]
    exact (transitions_nil kind k frame).append made' fun _ _ => List.not_mem_nil
  · rw [places, placed, schedule', List.map_cons, List.foldl_cons]
  · rw [places, collapsed, mark']

theorem withEntry_perm (now : Word) (l : List ScheduleEntry) (x : ScheduleEntry) :
    (withEntry now l x).Perm (x :: l) := by
  have whole := List.takeWhile_append_dropWhile (p := fun y => decide ((y.due - now).toNat ≤ (x.due - now).toNat))
    (l := l)
  rw [withEntry]
  exact List.perm_middle.trans (by rw [whole])

theorem withEntry_length (now : Word) (l : List ScheduleEntry) (x : ScheduleEntry) :
    (withEntry now l x).length = l.length + 1 := (withEntry_perm now l x).length_eq

/-- The state with the entry for a transition in the schedule (R63). -/
def withPlaced (k : KeyId) (kind : Transition) (travel : BitVec 6) (c : ContactId) (s : State) : State :=
  s.setSeq { s.seq with schedule := withEntry s.seq.tickCount s.seq.schedule (s.entryFor k travel kind c) }

theorem withPlaced_frame (k : KeyId) (kind : Transition) (travel : BitVec 6) (c : ContactId) (s : State) :
    Frame [.seq] s (withPlaced k kind travel c s) := Frame.setSeq s _ (.inl (by decide)) (.inr rfl)

/-- The transition of a contact while its key moves: made at once, placed, or made for want of a place (R65). -/
theorem placeTransition_moving {k : KeyId} {kind : Transition} (travel : BitVec 6) {s : State} (b : Bool)
    (c : ContactId) (moving : s.keyState k = kind.moving) :
    placeTransition k kind travel.toNat (s, b) c =
      if s.offsetOf k travel kind c = 0 then (s.applyTransition k c kind, b)
      else if s.seq.schedule.length < 256 then (withPlaced k kind travel c s, b)
      else (s.applyTransition k c kind, true) := by
  rw [placeTransition, if_pos moving, placeOne]
  dsimp only
  rw [transitionOffset_eq_offsetOf, placeEntry_eq_withEntry]
  rfl

/-- A key that a release has brought UP takes no further transition (assumption log 14). -/
theorem placeTransition_foldl_idle {k : KeyId} {kind : Transition} {travel : Nat} (cs : List ContactId)
    {r : State × Bool} (still : r.1.keyState k ≠ kind.moving) :
    cs.foldl (placeTransition k kind travel) r = r := by
  induction cs with
  | nil => rfl
  | cons c cs ih => rw [List.foldl_cons, placeTransition, if_neg still, ih]

theorem moving_ne_up (kind : Transition) : kind.moving ≠ .up := by cases kind <;> decide

/-- An event's transitions, contact by contact (R65): all of them are placed or made, or a release has ended it. -/
theorem placeTransition_foldl {k : KeyId} {kind : Transition} (travel : BitVec 6) {cs : List ContactId}
    (once : cs.Nodup) : ∀ (s : State) (b : Bool), s.keyState k = kind.moving →
    Placed kind k travel cs s b (cs.foldl (placeTransition k kind travel.toNat) (s, b)) ∨
      (kind = .close ∧ s.faultAction .engineShortage = .release ∧
        AllReleased (cs.foldl (placeTransition k kind travel.toNat) (s, b)).1) := by
  induction cs with
  | nil => exact fun s b _ => .inl ⟨transitions_nil kind k (.refl _ _), by simp [placedOf], by simp [collapsedOf]⟩
  | cons c cs ih =>
    intro s b moving
    obtain ⟨new, rest⟩ := List.nodup_cons.mp once
    have atOnce : ∀ b', placedOf (s.offsetOf k travel kind) (256 - s.seq.schedule.length) (c :: cs)
          = placedOf (s.offsetOf k travel kind) (256 - s.seq.schedule.length) cs ∧
        appliedOf (s.offsetOf k travel kind) (256 - s.seq.schedule.length) (c :: cs)
          = c :: appliedOf (s.offsetOf k travel kind) (256 - s.seq.schedule.length) cs →
        (b' || !(collapsedOf (s.offsetOf k travel kind) (256 - s.seq.schedule.length) cs).isEmpty)
          = (b || !(collapsedOf (s.offsetOf k travel kind) (256 - s.seq.schedule.length) (c :: cs)).isEmpty) →
        Placed kind k travel (c :: cs) s b
            (cs.foldl (placeTransition k kind travel.toNat) (s.applyTransition k c kind, b')) ∨
          (kind = .close ∧ s.faultAction .engineShortage = .release ∧
            AllReleased (cs.foldl (placeTransition k kind travel.toNat) (s.applyTransition k c kind, b')).1) := by
      intro b' plan mark
      rcases applyTransition_cases k c kind s with ⟨made, schedule⟩ | ⟨close, action, all⟩
      · have action : (s.applyTransition k c kind).faultAction .engineShortage = s.faultAction .engineShortage := by
          rw [State.faultAction, made.frame.tab (by decide), State.faultAction]
        have still : (s.applyTransition k c kind).keyState k = kind.moving := (made.state k).1.trans moving
        have more := ih rest (s.applyTransition k c kind) b' still
        rw [action] at more
        exact more.imp_left fun p => .cons_made made schedule p new plan mark
      · rw [placeTransition_foldl_idle cs (by rw [(all _ k rfl).1]; exact (moving_ne_up kind).symm)]
        exact .inr ⟨close, action, all⟩
    rw [List.foldl_cons, placeTransition_moving travel b c moving]
    by_cases zero : s.offsetOf k travel kind c = 0
    · rw [if_pos zero]
      obtain ⟨placed, collapsed, applied⟩ := plan_atOnce (n := 256 - s.seq.schedule.length) (cs := cs) zero
      exact atOnce b ⟨placed, applied⟩ (by rw [collapsed])
    · rw [if_neg zero]
      by_cases room : s.seq.schedule.length < 256
      · rw [if_pos room]
        have frame := withPlaced_frame k kind travel c s
        have more := ih rest (withPlaced k kind travel c s) b moving
        exact more.imp_left fun p => .cons_placed frame rfl (withEntry_length _ _ _) p room zero new
      · rw [if_neg room]
        have full : 256 - s.seq.schedule.length = 0 := by omega
        obtain ⟨placed, none, collapsed, applied⟩ := plan_collapsed (cs := cs) zero
        refine atOnce true ⟨by rw [full, placed, none], by rw [full, applied]⟩ ?_
        rw [full, Bool.true_or, List.isEmpty_eq_false_iff.mpr collapsed, Bool.not_false, Bool.or_true]

end Sys2Proof.Machine.Keys
end

section
/-!
PROOFS. KEY_DOWN and KEY_UP: what a key event that moves its key comes to (03_keys_and_the_key_map.md 3.4 to 3.6).
-/

namespace Sys2Proof.Machine.Keys

open Sys2Proof.Machine.Requests

/-! ### The beginning of an event (R50, R51, R64) -/

/-- The state with the key set moving and its entries of the other direction gone. -/
def setMoving (kind : Transition) (k : KeyId) (travel : BitVec 6) (s : State) : State :=
  let a := s.removePending k kind.opposite
  a.setKeyRecord k { a.key.records[k] with state := kind.moving, travel := travel }

theorem setMoving_record (kind : Transition) (k : KeyId) (travel : BitVec 6) (s : State) (j : KeyId) :
    (setMoving kind k travel s).key.records[j]
      = if j = k then { s.key.records[k] with state := kind.moving, travel := travel } else s.key.records[j] :=
  setKeyRecord_get (s.removePending k kind.opposite) k j _

theorem setMoving_contact (kind : Transition) (k : KeyId) (travel : BitVec 6) (s : State) (j : KeyId)
    (c : ContactId) : (setMoving kind k travel s).contact j c = s.contact j c := by
  by_cases e : j = k
  · subst e
    rw [State.contact, setMoving_record, if_pos rfl]
    rfl
  · rw [State.contact, setMoving_record, if_neg e]
    rfl

theorem setMoving_state (kind : Transition) (k : KeyId) (travel : BitVec 6) (s : State) (j : KeyId) :
    (setMoving kind k travel s).keyState j = if j = k then kind.moving else s.keyState j := by
  rw [State.keyState, setMoving_record]
  split <;> rfl

theorem setMoving_schedule (kind : Transition) (k : KeyId) (travel : BitVec 6) (s : State) :
    (setMoving kind k travel s).seq.schedule = s.seq.schedule.filter (fun x => x.key != k || x.kind == kind) := by
  show s.seq.schedule.filter (fun x => !(x.key == k && x.kind == kind.opposite)) = _
  refine List.filter_congr fun x _ => ?_
  have other : (x.kind == kind.opposite) = !(x.kind == kind) := by cases kind <;> cases x.kind <;> rfl
  rw [other, Bool.not_and, Bool.not_not]
  rfl

theorem setMoving_frame (kind : Transition) (k : KeyId) (travel : BitVec 6) (s : State) :
    Frame [.key, .seq] s (setMoving kind k travel s) :=
  ((s.removePending_frame _ _).mono (by decide)).trans ((State.setKeyRecord_frame _ _ _).mono (by decide))

theorem setMoving_keyContacts (kind : Transition) (k : KeyId) (travel : BitVec 6) (s : State) (closed : Bool) :
    (setMoving kind k travel s).keyContacts k closed = s.keyContacts k closed := by
  simp only [State.keyContacts, setMoving_contact]

section
variable {kind : Transition} {k : KeyId} {s t : State}

theorem movedContact_congr (wheel : ∀ c, t.assignedWheel k c = s.assignedWheel k c) (c : ContactId) :
    movedContact t k kind c = movedContact s k kind c := by
  cases kind with
  | close => rw [movedContact, wheel, movedContact]
  | open_ => rfl

theorem movedCount_congr (wheel : ∀ c, t.assignedWheel k c = s.assignedWheel k c) (bus : t.bus = s.bus)
    (contact : ∀ j c, t.contact j c = s.contact j c) (l : List ContactId) (row : BusRow) (w : Wheel) :
    movedCount t k kind l row w = movedCount s k kind l row w := by
  cases kind with
  | close => simp only [movedCount, closingCount, wheel, bus]
  | open_ => simp only [movedCount, bus, openingCount_congr fun p _ => contact p.1 p.2]

theorem movedClicks_congr (wheel : ∀ c, t.assignedWheel k c = s.assignedWheel k c)
    (tick : t.seq.tickCount = s.seq.tickCount) (contact : ∀ j c, t.contact j c = s.contact j c)
    (l : List ContactId) : movedClicks t k kind l = movedClicks s k kind l := by
  cases kind with
  | close => simp only [movedClicks, wheel, tick]
  | open_ => exact openingClicks_congr (fun p _ => contact p.1 p.2) tick

end

/-! ### The transitions of the event, and its collapse (R65, R66) -/

/-- The transitions of an event, in the state in which they are placed and made, with the mark of a collapse. -/
def eventMade (kind : Transition) (k : KeyId) (travel : BitVec 6) (s : State) : State × Bool :=
  (s.keyContacts k (kind == .open_)).foldl (placeTransition k kind travel.toNat) (setMoving kind k travel s, false)

/-- The event with its collapse counted and raised. -/
def eventCollapsed (r : State × Bool) : State := if r.2 then r.1.collapse else r.1

theorem move_eq (kind : Transition) (k : KeyId) (travel : BitVec 6) (s : State) :
    s.move kind k travel = (eventCollapsed (eventMade kind k travel s)).settleKey k := by
  have cs : (setMoving kind k travel s).contactsThat k (kind == .open_) = s.keyContacts k (kind == .open_) :=
    setMoving_keyContacts kind k travel s _
  have whole : s.move kind k travel = ((setMoving kind k travel s).placeTransitions k kind
    ((setMoving kind k travel s).contactsThat k (kind == .open_))).settleKey k := rfl
  rw [whole, cs, State.placeTransitions, setMoving_record, if_pos rfl]
  rfl

theorem keyContacts_nodup (s : State) (k : KeyId) (closed : Bool) : (s.keyContacts k closed).Nodup :=
  (contactsOf_nodup k).filter _

/-- The transitions of an event that no release has ended, told of the state before it. -/
structure EventMade (kind : Transition) (k : KeyId) (travel : BitVec 6) (s : State) (r : State × Bool) : Prop where
  made : Transitions kind k (s.atOnce k travel kind) (setMoving kind k travel s) r.1
  schedule : r.1.seq.schedule = s.scheduleAfter k travel kind
  mark : r.2 = !(s.collapsed k travel kind).isEmpty

theorem eventMade_cases (kind : Transition) (k : KeyId) (travel : BitVec 6) (s : State) :
    EventMade kind k travel s (eventMade kind k travel s) ∨
      (kind = .close ∧ s.faultAction .engineShortage = .release ∧ AllReleased (eventMade kind k travel s).1) := by
  have frame := setMoving_frame kind k travel s
  have moving : (setMoving kind k travel s).keyState k = kind.moving := by rw [setMoving_state, if_pos rfl]
  have action : (setMoving kind k travel s).faultAction .engineShortage = s.faultAction .engineShortage := rfl
  rcases placeTransition_foldl travel (keyContacts_nodup s k (kind == .open_)) (setMoving kind k travel s) false
    moving with ⟨made, schedule, mark⟩ | released
  · rw [offsetOf_congr (frame.tab (by decide)), setMoving_schedule] at made schedule mark
    rw [entryFor_congr (frame.tab (by decide)) (frame.tick (by decide)), frame.tick (by decide)] at schedule
    rw [Bool.false_or] at mark
    exact .inl ⟨made, schedule, mark⟩
  · exact .inr released

/-- From s to t an event has collapsed and no key has been released (R66). -/
structure CollapseReported (s t : State) : Prop where
  frame : Frame (.cnt :: summaryBlocks) s t
  cnt : t.cnt = { s.cnt with collapses := s.cnt.collapses + 1 }
  record : t.record .scheduleFull
    = (s.record .scheduleFull).occurred (s.faultMode .scheduleFull) (s.faultAction .scheduleFull)

theorem collapse_cases {s : State} (ready : s.req.opState ≠ .initializing) : CollapseReported s s.collapse ∨
    (s.faultAction .scheduleFull = .release ∧ AllReleased s.collapse) := by
  have counted : Frame [.cnt] s (s.count fun c => { c with collapses := c.collapses + 1 }) := s.count_frame _
  have o : Occurred .scheduleFull (s.count fun c => { c with collapses := c.collapses + 1 }) s.collapse :=
    (raiseEvent_reported _ _).2 ready
  by_cases w : (s.count fun c => { c with collapses := c.collapses + 1 }).WouldRelease .scheduleFull
  · exact .inr ⟨w.2.2, fun m => (o.released w).1.keys m (mem_allManuals m)⟩
  · obtain ⟨r, record⟩ := occurred_reported o w
    exact .inl ⟨(counted.mono (by decide)).trans (r.frame.mono (by decide)), r.frame.cnt (by decide), record⟩

/-! ### The end of the event (R50, R51, R53, R58) -/

/-- The state of a key at the end of its movement. -/
def arrived : Transition → KeyState
  | .close => .down
  | .open_ => .up

theorem settleKey_waiting {k : KeyId} {s : State} (h : s.hasEntry k = true) : s.settleKey k = s := if_pos h

theorem settleKey_still {k : KeyId} {s : State} (down : s.keyState k ≠ .descending) (up : s.keyState k ≠ .ascending) :
    s.settleKey k = s := by
  unfold State.settleKey
  split
  · rfl
  · split
    · next e => exact absurd e down
    · next e => exact absurd e up
    · rfl

theorem settleKey_arrives {k : KeyId} {s : State} {kind : Transition} (h : s.hasEntry k = false)
    (moving : s.keyState k = kind.moving) : s.settleKey k =
      if kind = .open_ ∧ keyManual k = .upper ∧ (s.setKeyState k .up).manualUp .upper = true then
        (s.setKeyState k .up).manualFullyUp
      else s.setKeyState k (arrived kind) := by
  unfold State.settleKey
  rw [h, if_neg Bool.false_ne_true, moving]
  cases kind with
  | close => exact (if_neg fun c => nomatch c.1).symm
  | open_ =>
    have up : (s.setKeyState k .up).keyState k = .up := by rw [setKeyState_state, if_pos rfl]
    show (s.setKeyState k .up).afterUp k = _
    simp only [State.afterUp, up, true_and]
    rfl

/-- What a key's arrival, if it has no entry left, leaves and changes (R53, R58, R140). -/
structure Settled (kind : Transition) (k : KeyId) (s t : State) : Prop where
  frame : Frame [.key, .prc] s t
  others : ∀ j : KeyId, j ≠ k → t.key.records[j] = s.key.records[j]
  travel : (t.key.records[k]).travel = (s.key.records[k]).travel
  contact : ∀ j c, t.contact j c = s.contact j c
  state : t.keyState k = if s.hasEntry k then kind.moving else arrived kind
  prc : t.prc = if kind = .open_ ∧ keyManual k = .upper ∧ t.manualUp .upper = true then s.prc.rearmed else s.prc

theorem settleKey_settled {kind : Transition} {k : KeyId} {s : State} (moving : s.keyState k = kind.moving) :
    Settled kind k s (s.settleKey k) := by
  cases h : s.hasEntry k with
  | true =>
    rw [settleKey_waiting h]
    refine ⟨.refl _ _, fun _ _ => rfl, rfl, fun _ _ => rfl, by rw [moving, h, if_pos rfl], ?_⟩
    refine (if_neg fun c => ?_).symm
    have down : s.manualUp (keyManual k) = false := manualUp_false (by rw [moving]; exact moving_ne_up kind)
    rw [c.2.1, c.2.2] at down
    cases down
  | false =>
    have set := s.setKeyState_frame k (arrived kind)
    have others : ∀ j : KeyId, j ≠ k → (s.setKeyState k (arrived kind)).key.records[j] = s.key.records[j] :=
      fun j n => by rw [setKeyState_get, if_neg n]
    have travel : ((s.setKeyState k (arrived kind)).key.records[k]).travel = (s.key.records[k]).travel := by
      rw [setKeyState_get, if_pos rfl]
    have contact : ∀ j c, (s.setKeyState k (arrived kind)).contact j c = s.contact j c := fun j c =>
      setKeyState_contact s k j c _
    have state : (s.setKeyState k (arrived kind)).keyState k = arrived kind := by rw [setKeyState_state, if_pos rfl]
    rw [settleKey_arrives h moving]
    by_cases arms : kind = .open_ ∧ keyManual k = .upper ∧ (s.setKeyState k .up).manualUp .upper = true
    · obtain ⟨rfl, upper, up⟩ := arms
      have fully := (s.setKeyState k .up).manualFullyUp_frame
      rw [if_pos ⟨rfl, upper, up⟩]
      refine ⟨(set.mono (by decide)).trans (fully.mono (by decide)), others, travel, contact, by rw [h]; exact state, ?_⟩
      rw [if_pos ⟨rfl, upper, by rw [manualUp_of_frame fully (by decide)]; exact up⟩]
      exact Percussion.fullyUp_eq_rearmed _
    · rw [if_neg arms]
      refine ⟨set.mono (by decide), others, travel, contact, by rw [h]; exact state, (if_neg fun c => arms ?_).symm⟩
      obtain ⟨rfl, upper, up⟩ := c
      exact ⟨rfl, upper, up⟩

/-! ### The whole event -/

/-- From s to t a key event has moved its key and no release has ended it; p is the percussion block that the event's
transitions find. -/
structure EventMoved (kind : Transition) (k : KeyId) (travel : BitVec 6) (p : Percussion) (s t : State) : Prop where
  travels : (t.key.records[k]).travel = travel
  others : ∀ j : KeyId, j ≠ k → t.key.records[j] = s.key.records[j]
  state : t.keyState k = if s.scheduled k travel kind = [] ∧
      (∀ x ∈ s.seq.schedule, x.key = k → x.kind = kind.opposite) then arrived kind else kind.moving
  schedule : t.seq.schedule = s.scheduleAfter k travel kind
  contact : ∀ d, t.contact k d = if d ∈ s.atOnce k travel kind then movedContact s k kind d else s.contact k d
  counts : ∀ row w, t.bus.countOf row w = movedCount s k kind (s.atOnce k travel kind) row w
  clicks : t.bus.clicks = clicksWith s.bus.clicks (movedClicks s k kind (s.atOnce k travel kind))
  prc : t.prc = (let q := movedPrc kind (s.atOnce k travel kind) p
    if kind = .open_ ∧ keyManual k = .upper ∧ t.manualUp .upper = true then q.rearmed else q)
  collapses : t.cnt.collapses = s.cnt.collapses + (if s.collapsed k travel kind = [] then 0 else 1)
  record : t.record .scheduleFull = (if s.collapsed k travel kind = [] then s.record .scheduleFull
    else (s.record .scheduleFull).occurred (s.faultMode .scheduleFull) (s.faultAction .scheduleFull))

theorem foldl_withEntry_perm (now : Word) (new old : List ScheduleEntry) :
    (new.foldl (withEntry now) old).Perm (new ++ old) := by
  induction new generalizing old with
  | nil => exact .refl _
  | cons x new ih =>
    exact (ih _).trans (((withEntry_perm now old x).append_left new).trans List.perm_middle)

/-- The schedule after a key event holds the placed entries and what the event has left of the old ones. -/
theorem mem_scheduleAfter {s : State} {k : KeyId} {travel : BitVec 6} {kind : Transition} {x : ScheduleEntry} :
    x ∈ s.scheduleAfter k travel kind ↔
      (∃ c ∈ s.scheduled k travel kind, s.entryFor k travel kind c = x) ∨
        (x ∈ s.seq.schedule ∧ (x.key = k → x.kind = kind)) := by
  rw [State.scheduleAfter, (foldl_withEntry_perm _ _ _).mem_iff, List.mem_append, List.mem_map, List.mem_filter]
  refine or_congr_right (and_congr_right fun _ => ?_)
  rw [Bool.or_eq_true, bne_iff_ne, beq_iff_eq, ne_eq, ← imp_iff_not_or]

theorem hasEntry_scheduleAfter {s t : State} {k : KeyId} {travel : BitVec 6} {kind : Transition}
    (schedule : t.seq.schedule = s.scheduleAfter k travel kind) : t.hasEntry k = false ↔
      s.scheduled k travel kind = [] ∧ ∀ x ∈ s.seq.schedule, x.key = k → x.kind = kind.opposite := by
  have other : ∀ x : ScheduleEntry, x.kind = kind.opposite ↔ x.kind ≠ kind := fun x => by
    cases kind <;> cases x.kind <;> decide
  simp only [hasEntry_false, schedule, mem_scheduleAfter, other]
  constructor
  · intro none
    refine ⟨List.eq_nil_iff_forall_not_mem.mpr fun c mem => none _ (.inl ⟨c, mem, rfl⟩) rfl, fun x mem key same => ?_⟩
    exact none x (.inr ⟨mem, fun _ => same⟩) key
  · rintro ⟨nothing, gone⟩ x (⟨c, mem, rfl⟩ | ⟨mem, same⟩) key
    · rw [nothing] at mem
      cases mem
    · exact gone x mem key (same key)

/-- The event after its transitions: the collapse, if there is one, changes the counter and its record (R66). -/
theorem eventCollapsed_cases {s : State} {r : State × Bool} (ready : s.req.opState ≠ .initializing)
    (f : Frame closeBlocks s r.1) (c : List ContactId) (mark : r.2 = !c.isEmpty) :
    (Frame (.cnt :: summaryBlocks) r.1 (eventCollapsed r) ∧
      (eventCollapsed r).cnt = { r.1.cnt with collapses := r.1.cnt.collapses + (if c = [] then 0 else 1) } ∧
      (eventCollapsed r).record .scheduleFull = (if c = [] then r.1.record .scheduleFull
        else (r.1.record .scheduleFull).occurred (s.faultMode .scheduleFull) (s.faultAction .scheduleFull)) ∧
      (c = [] → eventCollapsed r = r.1)) ∨
    (s.faultAction .scheduleFull = .release ∧ AllReleased (eventCollapsed r)) := by
  have tab : r.1.tab = s.tab := f.tab (by decide)
  have mode : r.1.faultMode .scheduleFull = s.faultMode .scheduleFull := by rw [State.faultMode, tab, State.faultMode]
  have action : r.1.faultAction .scheduleFull = s.faultAction .scheduleFull := by
    rw [State.faultAction, tab, State.faultAction]
  by_cases e : c = []
  · have same : eventCollapsed r = r.1 := by
      rw [eventCollapsed, mark, e]
      rfl
    rw [same, if_pos e, if_pos e]
    exact .inl ⟨.refl _ _, by rw [show r.1.cnt.collapses + 0 = _ from BitVec.add_zero _], rfl,
      fun _ => rfl⟩
  · have goes : eventCollapsed r = r.1.collapse := by
      rw [eventCollapsed, mark, List.isEmpty_eq_false_iff.mpr e]
      rfl
    rw [goes, if_neg e, if_neg e]
    rcases collapse_cases (s := r.1) (by rw [f.req (by decide)]; exact ready) with x | x
    · refine .inl ⟨x.frame, x.cnt, ?_, fun n => absurd n e⟩
      rw [x.record, mode, action]
    · rw [action] at x
      exact .inr x

/-- A key record is its state, its travel and its contacts. -/
theorem record_ext {s t : State} {k : KeyId} (state : (t.key.records[k]).state = (s.key.records[k]).state)
    (travel : (t.key.records[k]).travel = (s.key.records[k]).travel) (contact : ∀ c, t.contact k c = s.contact k c) :
    t.key.records[k] = s.key.records[k] := by
  have same : (t.key.records[k]).contacts = (s.key.records[k]).contacts :=
    Vector.ext fun i hi => contact ⟨i, hi⟩
  cases a : t.key.records[k]
  cases b : s.key.records[k]
  rw [a, b] at state travel same
  cases state
  cases travel
  cases same
  rfl

/-- The event's end, told of the state before the event. -/
theorem eventMoved_of_settled {kind : Transition} {k : KeyId} {travel : BitVec 6} {s u t : State}
    {r : State × Bool} (x : EventMade kind k travel s r) (frame : Frame (.cnt :: summaryBlocks) r.1 u)
    (cnt : u.cnt.collapses = r.1.cnt.collapses + (if s.collapsed k travel kind = [] then 0 else 1))
    (record : u.record .scheduleFull = (if s.collapsed k travel kind = [] then r.1.record .scheduleFull
      else (r.1.record .scheduleFull).occurred (s.faultMode .scheduleFull) (s.faultAction .scheduleFull)))
    (settled : Settled kind k u t) : EventMoved kind k travel s.prc s t := by
  have begun := setMoving_frame kind k travel s
  have wheel : ∀ c, (setMoving kind k travel s).assignedWheel k c = s.assignedWheel k c := fun c =>
    assignedWheel_congr (begun.tab (by decide)) (by rw [begun.prc (by decide)]) (by rw [begun.prc (by decide)]) k c
  have contacts := setMoving_contact kind k travel s
  have schedule : u.seq.schedule = s.scheduleAfter k travel kind := (frame.seq (by decide)).trans x.schedule
  have bus : t.bus = r.1.bus := (settled.frame.bus (by decide)).trans (frame.bus (by decide))
  have contact : ∀ j d, t.contact j d
      = if j = k ∧ d ∈ s.atOnce k travel kind then movedContact s k kind d else s.contact j d := fun j d => by
    rw [settled.contact, contact_of_frame frame (by decide), x.made.contact, movedContact_congr wheel, contacts]
  have before : r.1.record .scheduleFull = s.record .scheduleFull := x.made.records _ (by decide)
  refine ⟨?_, fun j n => ?_, ?_, ?_, fun d => by rw [contact]; simp only [true_and], fun row w => ?_, ?_, ?_, ?_, ?_⟩
  · rw [settled.travel, frame.key (by decide), (x.made.state k).2, setMoving_record, if_pos rfl]
  · have state := x.made.state j
    rw [setMoving_record, if_neg n, ← frame.key (by decide), ← settled.others j n] at state
    exact record_ext state.1 state.2 fun c => by rw [contact, if_neg fun h => n h.1]
  · rw [settled.state]
    simp only [← hasEntry_scheduleAfter schedule]
    cases u.hasEntry k <;> rfl
  · exact (settled.frame.seq (by decide)).trans schedule
  · rw [bus, x.made.counts, movedCount_congr wheel (begun.bus (by decide)) contacts]
  · rw [bus, x.made.clicks, movedClicks_congr wheel (begun.tick (by decide)) contacts, begun.bus (by decide)]
  · rw [settled.prc, frame.prc (by decide), x.made.prc, begun.prc (by decide)]
  · rw [settled.frame.cnt (by decide), cnt, x.made.collapses, begun.cnt (by decide)]
  · rw [State.record, settled.frame.flt (by decide), ← State.record, record, before]

theorem settleKey_released {s : State} (h : AllReleased s) (k : KeyId) : AllReleased (s.settleKey k) := by
  obtain ⟨up, _, _⟩ := h (keyManual k) k rfl
  rw [settleKey_still (by rw [up]; decide) (by rw [up]; decide)]
  exact h

/-- A key event that sets its key moving: it does so, or a release has ended it (assumption log 14). -/
theorem move_cases (kind : Transition) (k : KeyId) (travel : BitVec 6) {s : State}
    (ready : s.req.opState ≠ .initializing) : EventMoved kind k travel s.prc s (s.move kind k travel) ∨
      (((kind = .close ∧ s.faultAction .engineShortage = .release) ∨ s.faultAction .scheduleFull = .release) ∧
        AllReleased (s.move kind k travel)) := by
  rw [move_eq]
  rcases eventMade_cases kind k travel s with x | ⟨close, action, all⟩
  · have begun := (setMoving_frame kind k travel s).mono (b := closeBlocks) (by decide)
    rcases eventCollapsed_cases ready (begun.trans x.made.frame) (s.collapsed k travel kind) x.mark with
      ⟨frame, cnt, record, _⟩ | ⟨action, all⟩
    · have moving : (eventCollapsed (eventMade kind k travel s)).keyState k = kind.moving := by
        rw [keyState_of_frame frame (by decide), State.keyState, (x.made.state k).1, ← State.keyState,
          setMoving_state, if_pos rfl]
      exact .inl (eventMoved_of_settled x frame (by rw [cnt]) record (settleKey_settled moving))
    · exact .inr ⟨.inr action, settleKey_released all k⟩
  · refine .inr ⟨.inl ⟨close, action⟩, settleKey_released ?_ k⟩
    unfold eventCollapsed
    split
    · exact allReleased_releaseStable.raiseEvent _
        (allReleased_of_frame all (State.count_frame _ _) (by decide) (by decide))
    · exact all

end Sys2Proof.Machine.Keys
end

section
/-!
PROOFS. The statements on KEY_DOWN and KEY_UP (03_keys_and_the_key_map.md 3.4 to 3.6).
-/

namespace Sys2Proof.Machine.Keys

open Sys2Proof.Machine.Requests

/-! ### The transitions an event makes and places, one contact at a time -/

/-- A transition of an event is made at once unless it is placed (R65). -/
theorem mem_atOnce {s : State} {k : KeyId} {travel : BitVec 6} {kind : Transition} {c : ContactId} :
    c ∈ s.atOnce k travel kind ↔
      c ∈ contactsOf k ∧ (kind = .open_ ↔ s.contact k c ≠ .opened) ∧ c ∉ s.scheduled k travel kind := by
  have which : ((s.contact k c != .opened) == (kind == .open_)) = true ↔
      (kind = .open_ ↔ s.contact k c ≠ .opened) := by
    rw [beq_iff_eq, Bool.eq_iff_iff, bne_iff_ne, beq_iff_eq]
    exact Iff.comm
  rw [State.atOnce, List.mem_filter, State.keyContacts, List.mem_filter, which, and_assoc, Bool.not_eq_true',
    List.contains_eq_mem, decide_eq_false_iff_not]

theorem atOnce_nodup (s : State) (k : KeyId) (travel : BitVec 6) (kind : Transition) :
    (s.atOnce k travel kind).Nodup := (keyContacts_nodup s k _).filter _

/-- A list that holds nothing twice has one element of its own that a choice of one element takes, or none. -/
theorem length_filter_one {α : Type} [DecidableEq α] {a : α} {p : α → Bool} {l : List α} (once : l.Nodup)
    (one : ∀ b ∈ l, p b = true → b = a) : (l.filter p).length = if a ∈ l ∧ p a = true then 1 else 0 := by
  split
  · next h =>
    obtain ⟨mem, chosen⟩ := h
    refine List.length_eq_one_iff.mpr ⟨a, List.perm_singleton.mp ?_⟩
    refine (List.perm_ext_iff_of_nodup (once.filter p) (List.nodup_singleton a)).mpr fun b => ?_
    rw [List.mem_filter, List.mem_singleton]
    exact ⟨fun h => one b h.1 h.2, fun e => e ▸ ⟨mem, chosen⟩⟩
  · next h =>
    rw [List.length_eq_zero_iff, List.filter_eq_nil_iff]
    exact fun b mem chosen => h (one b mem chosen ▸ ⟨mem, chosen⟩)

section
variable {k : KeyId} {l : List ContactId} {s : State}

/-- Of some contacts of a key only the one of a bus counts on that bus (R76). -/
theorem length_row {p : ContactId → Bool} (once : l.Nodup) (own : ∀ d ∈ l, d ∈ contactsOf k) {c : ContactId}
    (mem : c ∈ contactsOf k) :
    (l.filter (fun d => contactRow (keyManual k) d == contactRow (keyManual k) c && p d)).length
      = if c ∈ l ∧ p c = true then 1 else 0 := by
  have one := length_filter_one (a := c)
    (p := fun d => contactRow (keyManual k) d == contactRow (keyManual k) c && p d) once fun d m h =>
      ((contactRow_inj (own d m) mem).mp (beq_iff_eq.mp (Bool.and_eq_true_iff.mp h).1)).2
  simpa only [beq_self_eq_true, Bool.true_and] using one

theorem length_noRow {p : ContactId → Bool} (own : ∀ d ∈ l, d ∈ contactsOf k) {row : BusRow}
    (other : ∀ c ∈ contactsOf k, row ≠ contactRow (keyManual k) c) :
    (l.filter (fun d => contactRow (keyManual k) d == row && p d)).length = 0 := by
  rw [List.length_eq_zero_iff, List.filter_eq_nil_iff]
  exact fun d m h => other d (own d m) (beq_iff_eq.mp (Bool.and_eq_true_iff.mp h).1).symm

theorem closingCount_row (once : l.Nodup) (own : ∀ d ∈ l, d ∈ contactsOf k) {c : ContactId}
    (mem : c ∈ contactsOf k) (w : Wheel) : closingCount s k l (contactRow (keyManual k) c) w
      = if c ∈ l ∧ s.assignedWheel k c = some w then 1 else 0 := by
  rw [closingCount, length_row once own mem]
  simp only [beq_iff_eq]

theorem openingCount_eq (row : BusRow) (w : Wheel) : s.openingCount (l.map fun c => (k, c)) row w
    = (l.filter (fun c => contactRow (keyManual k) c == row && s.contact k c == .closed (some w))).length := by
  rw [State.openingCount, List.filter_map, List.length_map]
  rfl

theorem openingCount_row (once : l.Nodup) (own : ∀ d ∈ l, d ∈ contactsOf k) {c : ContactId}
    (mem : c ∈ contactsOf k) (w : Wheel) :
    s.openingCount (l.map fun c => (k, c)) (contactRow (keyManual k) c) w
      = if c ∈ l ∧ s.contact k c = .closed (some w) then 1 else 0 := by
  rw [openingCount_eq, length_row once own mem]
  simp only [beq_iff_eq]

end

/-! ### What an event that no release has ended says of its key -/

theorem withEntry_others (now : Word) (l : List ScheduleEntry) {x : ScheduleEntry} {k : KeyId} (own : x.key = k) :
    (withEntry now l x).filter (fun y => y.key != k) = l.filter (fun y => y.key != k) := by
  rw [withEntry, List.filter_append, List.filter_cons, if_neg (by simp [own]), ← List.filter_append,
    List.takeWhile_append_dropWhile]

theorem foldl_withEntry_others (now : Word) {new : List ScheduleEntry} {k : KeyId} (own : ∀ x ∈ new, x.key = k) :
    ∀ old : List ScheduleEntry, (new.foldl (withEntry now) old).filter (fun y => y.key != k)
      = old.filter (fun y => y.key != k) := by
  induction new with
  | nil => exact fun _ => rfl
  | cons x new ih =>
    intro old
    rw [List.foldl_cons, ih fun y m => own y (List.mem_cons_of_mem _ m),
      withEntry_others now old (own x List.mem_cons_self)]

namespace EventMoved

variable {kind : Transition} {k : KeyId} {travel : BitVec 6} {p : Percussion} {s t : State}

theorem entriesOfOthers (x : EventMoved kind k travel p s t) : t.entriesOfOthers k = s.entriesOfOthers k := by
  have own : ∀ y ∈ (s.scheduled k travel kind).map (s.entryFor k travel kind), y.key = k := by
    simp only [List.mem_map]
    rintro _ ⟨c, _, rfl⟩
    rfl
  rw [State.entriesOfOthers, x.schedule, State.scheduleAfter, foldl_withEntry_others _ own, List.filter_filter,
    State.entriesOfOthers]
  refine List.filter_congr fun y _ => ?_
  cases y.key != k <;> rfl

theorem entries (x : EventMoved kind k travel p s t) (y : ScheduleEntry) (key : y.key = k) :
    y ∈ t.seq.schedule ↔ (y ∈ s.seq.schedule ∧ y.kind = kind) ∨
      (y.kind = kind ∧ y.contact ∈ s.scheduled k travel kind ∧
        y.due = s.seq.tickCount + wordOf (s.offsetOf k travel kind y.contact)) := by
  rw [x.schedule, mem_scheduleAfter, or_comm]
  refine or_congr (and_congr_right fun _ => forall_prop_of_true key) ⟨?_, fun ⟨same, mem, due⟩ => ?_⟩
  · rintro ⟨c, mem, rfl⟩
    exact ⟨rfl, mem, rfl⟩
  · refine ⟨y.contact, mem, ?_⟩
    rw [State.entryFor, ← due, ← same, ← key]

theorem closed (x : EventMoved .close k travel p s t) {c : ContactId} (mem : c ∈ contactsOf k) : t.contact k c =
    if s.contact k c = .opened ∧ c ∉ s.scheduled k travel .close then .closed (s.assignedWheel k c)
    else s.contact k c := by
  rw [x.contact]
  simp only [mem_atOnce, mem, true_and, reduceCtorEq, false_iff, not_not, ne_eq]
  rfl

theorem opened (x : EventMoved .open_ k travel p s t) {c : ContactId} (mem : c ∈ contactsOf k) : t.contact k c =
    if s.contact k c ≠ .opened ∧ c ∉ s.scheduled k travel .open_ then .opened else s.contact k c := by
  rw [x.contact]
  simp only [mem_atOnce, mem, true_and, true_iff]
  rfl

theorem own (x : List ContactId) (e : x = s.atOnce k travel kind) : ∀ d ∈ x, d ∈ contactsOf k :=
  fun _ m => (mem_atOnce.mp (e ▸ m)).1

/-- A bus that no contact of the key counts on keeps its counts. -/
theorem countOf_others (x : EventMoved kind k travel p s t) {row : BusRow} (w : Wheel)
    (other : ∀ c ∈ contactsOf k, row ≠ contactRow (keyManual k) c) : t.bus.countOf row w = s.bus.countOf row w := by
  rw [x.counts]
  cases kind with
  | close => rw [movedCount, closingCount, length_noRow (own _ rfl) other, Nat.add_zero]
  | open_ => rw [movedCount, openingCount_eq, length_noRow (own _ rfl) other, Nat.sub_zero]

theorem countOf_closed (x : EventMoved .close k travel p s t) {c : ContactId} (mem : c ∈ contactsOf k) (w : Wheel) :
    t.bus.countOf (contactRow (keyManual k) c) w = s.bus.countOf (contactRow (keyManual k) c) w +
      (if s.contact k c = .opened ∧ t.contact k c = .closed (some w) then 1 else 0) := by
  rw [x.counts, movedCount, closingCount_row (atOnce_nodup s k travel .close) (own _ rfl) mem, x.contact]
  refine congrArg (_ + ·) (if_congr ?_ rfl rfl)
  by_cases m : c ∈ s.atOnce k travel .close
  · have opened : s.contact k c = .opened := by simpa using (mem_atOnce.mp m).2.1
    simp [m, opened, movedContact]
  · rw [if_neg m]
    refine iff_of_false (fun h => m h.1) fun ⟨opened, closed⟩ => ?_
    rw [opened] at closed
    cases closed

theorem countOf_opened (x : EventMoved .open_ k travel p s t) {c : ContactId} (mem : c ∈ contactsOf k) (w : Wheel) :
    t.bus.countOf (contactRow (keyManual k) c) w = s.bus.countOf (contactRow (keyManual k) c) w -
      (if s.contact k c = .closed (some w) ∧ t.contact k c = .opened then 1 else 0) := by
  rw [x.counts, movedCount, openingCount_row (atOnce_nodup s k travel .open_) (own _ rfl) mem, x.contact]
  refine congrArg (_ - ·) (if_congr ?_ rfl rfl)
  by_cases m : c ∈ s.atOnce k travel .open_
  · simp [m, movedContact]
  · rw [if_neg m]
    refine iff_of_false (fun h => m h.1) fun ⟨closed, opened⟩ => ?_
    rw [opened] at closed
    cases closed

end EventMoved

/-! ### KEY_DOWN, with the phrase start (R49, R50, R128, R137) -/

/-- The event finds every key of its manual UP (R49). -/
abbrev StartsPhrase (k : KeyId) (s : State) : Prop := s.keyState k = .up ∧ s.manualUp (keyManual k) = true

/-- The state in which a key-down moves its key: a phrase has started, if one starts. -/
def started (k : KeyId) (s : State) : State :=
  if StartsPhrase k s then s.phraseStart (keyManual k) else s

theorem keyDownOn_moves {k : KeyId} {s : State} (travel : BitVec 6) (hold : s.key.hold = false)
    (moves : s.keyState k = .up ∨ s.keyState k = .ascending) :
    s.keyDownOn k travel = (started k s).move .close k travel := by
  unfold State.keyDownOn started StartsPhrase
  rw [hold, if_neg Bool.false_ne_true]
  rcases moves with e | e
  · rw [e]
    simp only [true_and]
    split <;> rfl
  · rw [e]
    simp only [reduceCtorEq, false_and, if_false]
    rfl

theorem started_frame (k : KeyId) (s : State) : Frame [.reg, .prc] s (started k s) := by
  unfold started
  split
  · exact s.phraseStart_frame _
  · exact .refl _ _

/-- A phrase start changes the Registration and the percussion block only. -/
theorem phraseStart_eq (m : Manual) (s : State) :
    s.phraseStart m = (s.setReg (s.phraseStart m).reg).setPrc (s.phraseStart m).prc := by
  unfold State.phraseStart
  cases s.reg.pendingReg[m.toFin] <;> dsimp only <;> split <;> rfl

theorem started_eq (k : KeyId) (s : State) :
    started k s = (s.setReg (started k s).reg).setPrc (started k s).prc := by
  unfold started
  split
  · exact phraseStart_eq _ _
  · rfl

theorem phraseStart_prc (m : Manual) (s : State) :
    (s.phraseStart m).prc = if m = .upper then s.prc.begun else s.prc := by
  unfold State.phraseStart
  cases s.reg.pendingReg[m.toFin] <;> dsimp only <;> split <;> rfl

theorem started_prc (k : KeyId) (s : State) :
    (started k s).prc = if keyManual k = .upper ∧ StartsPhrase k s then s.prc.begun else s.prc := by
  unfold started
  by_cases phrase : StartsPhrase k s
  · rw [if_pos phrase, phraseStart_prc]
    exact if_congr ⟨fun upper => ⟨upper, phrase⟩, fun h => h.1⟩ rfl rfl
  · rw [if_neg phrase, if_neg fun h => phrase h.2]

theorem begun_switches (p : Percussion) : p.begun.enable = p.enable ∧ p.begun.third = p.third := by
  unfold Percussion.begun
  split <;> exact ⟨rfl, rfl⟩

theorem started_wheel (k : KeyId) (s : State) (c : ContactId) :
    (started k s).assignedWheel k c = s.assignedWheel k c := by
  have tab : (started k s).tab = s.tab := (started_frame k s).tab (by decide)
  have prc := started_prc k s
  split at prc
  · exact assignedWheel_congr tab (by rw [prc, (begun_switches _).1]) (by rw [prc, (begun_switches _).2]) k c
  · exact assignedWheel_congr tab (by rw [prc]) (by rw [prc]) k c

/-- A phrase start takes a Pending Registration (R128). -/
theorem phraseStart_reg {m : Manual} {s : State} {p : Fin 16} (pending : s.reg.pendingReg[m.toFin] = some p) :
    (s.phraseStart m).reg = (s.selectNow m p).reg := by
  unfold State.phraseStart
  rw [pending]
  dsimp only
  split <;> rfl

theorem started_reg_pending {k : KeyId} {s : State} (phrase : StartsPhrase k s) {p : Fin 16}
    (pending : s.reg.pendingReg[(keyManual k).toFin] = some p) :
    (∀ n : Fin 9, ((started k s).reg.manualBars (keyManual k))[n] = ⟨s.presetLevel (keyManual k) p n, none⟩) ∧
      (started k s).reg.pendingReg[(keyManual k).toFin] = none := by
  rw [started, if_pos phrase, phraseStart_reg pending, State.selectNow, State.setReg_reg]
  rw [manualBars_setManual, pendingReg_setManual, if_pos rfl, if_pos rfl]
  exact ⟨fun n => tabulate_get _ n, rfl⟩

theorem started_reg_kept {k : KeyId} {s : State}
    (none : ¬ StartsPhrase k s ∨ s.reg.pendingReg[(keyManual k).toFin] = none) : (started k s).reg = s.reg := by
  unfold started
  split
  · next phrase =>
    unfold State.phraseStart
    rw [none.resolve_left fun h => h phrase]
    dsimp only
    split <;> rfl
  · rfl

/-- The event told of the state before its phrase start. -/
theorem EventMoved.of_started {kind : Transition} {k : KeyId} {travel : BitVec 6} {p : Percussion} {s t : State}
    (x : EventMoved kind k travel p (started k s) t) : EventMoved kind k travel p s t := by
  have frame := started_frame k s
  have contact : ∀ j c, (started k s).contact j c = s.contact j c := contact_of_frame frame (by decide)
  have placed : (started k s).scheduled k travel kind = s.scheduled k travel kind := by rw [started_eq]; rfl
  have collapsed : (started k s).collapsed k travel kind = s.collapsed k travel kind := by rw [started_eq]; rfl
  have atOnce : (started k s).atOnce k travel kind = s.atOnce k travel kind := by rw [started_eq]; rfl
  have after : (started k s).scheduleAfter k travel kind = s.scheduleAfter k travel kind := by rw [started_eq]; rfl
  have mode : (started k s).faultMode .scheduleFull = s.faultMode .scheduleFull := by rw [started_eq]; rfl
  have action : (started k s).faultAction .scheduleFull = s.faultAction .scheduleFull := by rw [started_eq]; rfl
  have record : (started k s).record .scheduleFull = s.record .scheduleFull := by rw [started_eq]; rfl
  obtain ⟨travels, others, state, schedule, moved, counts, clicks, prc, collapses, full⟩ := x
  rw [placed, frame.seq (by decide)] at state
  rw [collapsed] at collapses full
  rw [atOnce] at prc clicks
  simp only [atOnce, contact, movedContact_congr (started_wheel k s)] at moved
  simp only [atOnce, movedCount_congr (started_wheel k s) (frame.bus (by decide)) contact] at counts
  rw [movedClicks_congr (started_wheel k s) (frame.tick (by decide)) contact, frame.bus (by decide)] at clicks
  rw [frame.cnt (by decide)] at collapses
  rw [mode, action, record] at full
  exact ⟨travels, fun j n => by rw [others j n, frame.key (by decide)], state, schedule.trans after, moved, counts,
    clicks, prc, collapses, full⟩

theorem keyDownOn_cases {k : KeyId} {s : State} (travel : BitVec 6) (ready : s.req.opState ≠ .initializing)
    (hold : s.key.hold = false) (moves : s.keyState k = .up ∨ s.keyState k = .ascending) :
    EventMoved .close k travel (started k s).prc s (s.keyDownOn k travel) ∨
      ((s.faultAction .engineShortage = .release ∨ s.faultAction .scheduleFull = .release) ∧
        AllReleased (s.keyDownOn k travel)) := by
  have frame := started_frame k s
  have action : ∀ j, (started k s).faultAction j = s.faultAction j := fun j => by
    rw [State.faultAction, frame.tab (by decide), State.faultAction]
  rw [keyDownOn_moves travel hold moves]
  rcases move_cases .close k travel (s := started k s) (by rw [frame.req (by decide)]; exact ready) with x | x
  · exact .inl x.of_started
  · simp only [action, true_and] at x
    exact .inr x

/-- CP strikes an envelope that waits when it closes (R69, R138). -/
theorem EventMoved.prc_closed {k : KeyId} {travel : BitVec 6} {p : Percussion} {s t : State}
    (x : EventMoved .close k travel p s t) : t.prc =
      if keyManual k = .upper ∧ s.contact k 9 = .opened ∧ t.contact k 9 ≠ .opened then p.struck else p := by
  rw [x.prc]
  dsimp only
  rw [if_neg fun h => nomatch h.1, movedPrc]
  refine if_congr ?_ rfl rfl
  rw [x.contact]
  by_cases m : (9 : ContactId) ∈ s.atOnce k travel .close
  · obtain ⟨mem, opened, _⟩ := mem_atOnce.mp m
    have opened : s.contact k 9 = .opened := by simpa using opened
    simp [m, opened, nine_mem_contactsOf.mp mem, movedContact]
  · rw [if_neg m]
    exact iff_of_false (fun h => m h.2) fun ⟨_, opened, closed⟩ => closed opened

/-- Settles O37: a key-down starts a phrase or not, and then its transitions are placed or made one by one. -/
theorem keyDownMovesTheKey : Obligations.KeyDownMovesTheKey := by
  intro source raw travel k s playing mapped hold moves m phrase placed collapsed
  have move := keyDownOn_moves travel hold moves
  have reg : (s.keyDownOn k travel).reg = (started k s).reg := by
    rw [move]
    exact (State.move_frame _ _ _ _).reg (by decide)
  refine ⟨s.keyDownOn k travel, exec_keyDown playing mapped, (State.keyDownOn_frame k travel s).mono (by decide),
    fun starts p pending => ?_, fun none => reg.trans (started_reg_kept none), ?_⟩
  · rw [reg]
    exact started_reg_pending starts pending
  intro moved
  have all : moved ∨ ((s.faultAction .engineShortage = .release ∨ s.faultAction .scheduleFull = .release) ∧
      AllReleased (s.keyDownOn k travel)) := by
    refine (keyDownOn_cases travel (by rw [playing.2]; decide) hold moves).imp_left fun x => ?_
    refine ⟨x.travels, x.others, x.state, x.schedule, x.clicks, x.entriesOfOthers, x.entries, fun c mem => x.closed mem,
      fun c mem w => x.countOf_closed mem w, fun row w other => x.countOf_others w other, x.collapses, x.record, ?_⟩
    rw [x.prc_closed, started_prc]
  refine ⟨fun ⟨shortage, full, _⟩ => all.resolve_right fun h => ?_, all.imp_right fun h => h.2⟩
  exact h.1.elim shortage full

/-! ### KEY_UP (R51, R102, R110) -/

theorem keyUpOn_moves {k : KeyId} {s : State} (travel : BitVec 6)
    (moves : s.keyState k = .down ∨ s.keyState k = .descending) : s.keyUpOn k travel = s.move .open_ k travel := by
  unfold State.keyUpOn
  rcases moves with e | e <;> rw [e] <;> rfl

/-- An event's OPENs count nothing, and what they change in the Fault Unit is ENGINE_SHORTAGE that goes absent. -/
theorem placeOpen_eases (k : KeyId) (travel : Nat) (p : State × Bool) (c : ContactId) :
    Frame [.key, .seq, .bus, .eng, .flt] p.1 (placeTransition k .open_ travel p c).1 ∧
      Eases p.1 (placeTransition k .open_ travel p c).1 := by
  have made : Frame [.key, .seq, .bus, .eng, .flt] p.1 (p.1.applyOpen k c) ∧ Eases p.1 (p.1.applyOpen k c) :=
    ⟨(p.1.applyOpen_frame k c).mono (by decide), (applyOpen_opened k c p.1).eases⟩
  unfold placeTransition placeOne
  split
  · dsimp only
    split
    · exact made
    · split
      · have placed : ∀ q, Frame [.seq] p.1 (p.1.setSeq { p.1.seq with schedule := q }) := fun q =>
          Frame.setSeq _ _ (.inl (by decide)) (.inr rfl)
        exact ⟨(placed _).mono (by decide), .of_frame (placed _) (by decide) (by decide) (by decide)⟩
      · exact made
  · exact ⟨.refl _ _, .refl _⟩

theorem placeOpen_foldl_eases (k : KeyId) (travel : Nat) (cs : List ContactId) : ∀ p : State × Bool,
    Frame [.key, .seq, .bus, .eng, .flt] p.1 (cs.foldl (placeTransition k .open_ travel) p).1 ∧
      Eases p.1 (cs.foldl (placeTransition k .open_ travel) p).1 := by
  induction cs with
  | nil => exact fun p => ⟨.refl _ _, .refl _⟩
  | cons c cs ih =>
    intro p
    obtain ⟨frame, eases⟩ := placeOpen_eases k travel p c
    obtain ⟨frame', eases'⟩ := ih (placeTransition k .open_ travel p c)
    exact ⟨frame.trans frame', eases.trans eases'⟩

theorem eventMade_eases (k : KeyId) (travel : BitVec 6) (s : State) :
    Frame [.key, .seq, .bus, .eng, .flt] s (eventMade .open_ k travel s).1 ∧
      Eases s (eventMade .open_ k travel s).1 := by
  have begun := setMoving_frame .open_ k travel s
  obtain ⟨frame, eases⟩ := placeOpen_foldl_eases k travel.toNat (s.keyContacts k true)
    (setMoving .open_ k travel s, false)
  exact ⟨(begun.mono (by decide)).trans frame, (Eases.of_frame begun (by decide) (by decide) (by decide)).trans eases⟩

/-- A key-up counts nothing but a collapse. -/
theorem moveUp_cnt (k : KeyId) (travel : BitVec 6) (s : State) :
    (s.move .open_ k travel).cnt = { s.cnt with collapses := (s.move .open_ k travel).cnt.collapses } := by
  have made : (eventMade .open_ k travel s).1.cnt = s.cnt := (eventMade_eases k travel s).1.cnt (by decide)
  have settled : (s.move .open_ k travel).cnt = (eventCollapsed (eventMade .open_ k travel s)).cnt := by
    rw [move_eq]
    exact (State.settleKey_frame k _).cnt (by decide)
  rw [settled, eventCollapsed]
  split
  · rw [State.collapse, (State.raiseEvent_frame _ _).cnt (by decide), ← made]
    rfl
  · rw [made]

/-- A key-up that does not collapse reports nothing but a shortage that ends. -/
theorem moveUp_eases {k : KeyId} {travel : BitVec 6} {s : State} (none : s.collapsed k travel .open_ = []) :
    ShortageEases s (s.move .open_ k travel) ∧
      Frame [.key, .seq, .bus, .eng, .prc, .flt] s (s.move .open_ k travel) := by
  have mark : (eventMade .open_ k travel s).2 = false := by
    rcases eventMade_cases .open_ k travel s with x | ⟨close, _⟩
    · rw [x.mark, none]
      rfl
    · cases close
  have same : eventCollapsed (eventMade .open_ k travel s) = (eventMade .open_ k travel s).1 := by
    rw [eventCollapsed, mark]
    rfl
  obtain ⟨frame, eases⟩ := eventMade_eases k travel s
  have settled := State.settleKey_frame k (eventMade .open_ k travel s).1
  rw [move_eq, same]
  exact ⟨(eases.trans (.of_frame settled (by decide) (by decide) (by decide))).shortage,
    (frame.mono (by decide)).trans (settled.mono (by decide))⟩

/-- Settles O38: a key-up's transitions are placed or made one by one; only its collapse can release the keys. -/
theorem keyUpMovesTheKey : Obligations.KeyUpMovesTheKey := by
  intro source raw travel k s playing mapped moves m placed collapsed
  refine ⟨s.keyUpOn k travel, exec_keyUp playing mapped, (State.keyUpOn_frame k travel s).mono (by decide), ?_⟩
  rw [keyUpOn_moves travel moves]
  intro moved
  have all : moved ∨ (s.faultAction .scheduleFull = .release ∧ AllReleased (s.move .open_ k travel)) := by
    rcases move_cases .open_ k travel (s := s) (by rw [playing.2]; decide) with x | ⟨action, released⟩
    · refine .inl ⟨x.travels, x.others, x.state, x.schedule, x.clicks, x.entriesOfOthers, x.entries,
        fun c mem => x.opened mem, fun c mem w => x.countOf_opened mem w, fun row w other => x.countOf_others w other,
        ?_, x.record, ?_, moveUp_eases⟩
      · rw [moveUp_cnt, x.collapses]
      · rw [x.prc]
        dsimp only
        simp only [true_and, movedPrc, reduceCtorEq, false_and, if_false]
        rfl
    · exact .inr ⟨action.resolve_left fun h => (nomatch h.1), released⟩
  exact ⟨fun quiet => all.resolve_right fun h => quiet h.1, all.imp_right fun h => h.2⟩

end Sys2Proof.Machine.Keys
end

section
/-!
PROOFS. What the Engine Cache makes of a demand that rises or falls (06_wheel_engines.md 6.2 to 6.4).
-/

namespace Sys2Proof.Machine.Keys

open Sys2Proof.Machine.Requests

/-! ### DEMAND UP (R79, R100, R101, R110, R115) -/

/-- A demand that leaves the Starved Wheel List alone is counted and reports nothing. -/
theorem demandUp_served {s : State} {w : Wheel} {c : EngineCache} {o : EngineCache.Served}
    (e : s.eng.demandUp w = (c, o)) (same : c.starved = s.eng.starved) :
    s.demandUp w = (s.setEng c).setCnt (countServed o s.cnt) := by
  unfold State.demandUp
  dsimp only
  rw [e]
  dsimp only
  rw [same, Bool.and_not_self, if_neg Bool.false_ne_true]
  rfl

theorem demandUp_bound {c : EngineCache} {w : Wheel} {e : EngineId} (bound : (c.store[w]).bound = some e) :
    c.demandUp w = if (c.engines[e]).state = .idle then (c.revive e, .hit) else (c, .waiting) := by
  rw [EngineCache.demandUp, bound]

theorem demandUp_unbound {c : EngineCache} {w : Wheel} (bound : (c.store[w]).bound = none) :
    c.demandUp w = c.allocate w := by rw [EngineCache.demandUp, bound]

theorem allocate_free {c : EngineCache} (w : Wheel) {e : EngineId} {rest : List EngineId} (free : c.free = e :: rest) :
    c.allocate w = ({ c with free := rest }.startLoad e w, .cleanMiss) := by rw [EngineCache.allocate, free]

theorem allocate_lru {c : EngineCache} (w : Wheel) {e : EngineId} {rest : List EngineId} (free : c.free = [])
    (lru : c.lru = rest ++ [e]) : c.allocate w = c.evict e w := by
  rw [EngineCache.allocate, free, lru, List.getLast?_concat]

theorem allocate_starves {c : EngineCache} (w : Wheel) (free : c.free = []) (lru : c.lru = []) :
    c.allocate w = ({ c with starved := c.starved ++ [w] }, .shortage) := by
  unfold EngineCache.allocate
  split
  · next e => rw [free] at e; cases e
  · split
    · next e => rw [lru] at e; cases e
    · rfl

theorem evict_wheel {c : EngineCache} (w : Wheel) {e : EngineId} {v : Wheel} (wheel : (c.engines[e]).wheel = some v) :
    c.evict e w = if (c.engines[e]).dirty then
        ({ c with lru := c.lru.dropLast }.startWriteBack e v (some w), .dirtyMiss)
      else (({ c with lru := c.lru.dropLast }.bindWheel v none).startLoad e w, .cleanMiss) := by
  rw [EngineCache.evict]
  dsimp only
  rw [wheel]

/-- To unbind one wheel changes of the others nothing that a new binding keeps. -/
theorem bind_after_unbind (store : Vector WheelRecord 96) (v w : Wheel) (b : Option EngineId) :
    { (store.set v { store[v] with bound := none })[w] with bound := b } = { store[w] with bound := b } := by
  by_cases e : v = w
  · subst e
    simp
  · have ne : (v : Nat) ≠ w := fun h => e (Fin.ext h)
    simp [ne]

theorem demandUp_rose (w : Wheel) (s : State) : DemandRose w s (s.demandUp w) := by
  constructor
  case revived =>
    intro e bound idle
    have served : s.eng.demandUp w = (s.eng.revive e, .hit) := by rw [demandUp_bound bound, if_pos idle]
    rw [demandUp_served served rfl]
    rfl
  case waiting =>
    intro e bound busy
    have served : s.eng.demandUp w = (s.eng, .waiting) := by rw [demandUp_bound bound, if_neg busy]
    rw [demandUp_served served rfl]
    rfl
  case free =>
    intro e rest unbound free
    rw [demandUp_served ((demandUp_unbound unbound).trans (allocate_free w free)) rfl]
    rfl
  case evictedClean =>
    intro e rest v unbound free lru wheel clean
    have served : s.eng.demandUp w
        = (({ s.eng with lru := rest }.bindWheel v none).startLoad e w, .cleanMiss) := by
      rw [demandUp_unbound unbound, allocate_lru w free lru, evict_wheel w wheel, clean, lru, List.dropLast_concat]
      rfl
    rw [demandUp_served served rfl, ← bind_after_unbind s.eng.store v w]
    rfl
  case evictedDirty =>
    intro e rest v unbound free lru wheel dirty
    have served : s.eng.demandUp w = ({ s.eng with lru := rest }.startWriteBack e v (some w), .dirtyMiss) := by
      rw [demandUp_unbound unbound, allocate_lru w free lru, evict_wheel w wheel, dirty, lru, List.dropLast_concat]
      rfl
    rw [demandUp_served served rfl, ← bind_after_unbind s.eng.store v w]
    rfl
  case starves =>
    intro unbound free lru u
    have served := (demandUp_unbound unbound).trans (allocate_starves w free lru)
    have joined : (s.eng.starved ++ [w]).isEmpty = false := List.isEmpty_eq_false_iff.mpr (by simp)
    have go : s.demandUp w = if s.eng.starved.isEmpty then u.conditionPresent .engineShortage else u := by
      unfold State.demandUp
      dsimp only
      rw [served]
      dsimp only
      rw [joined, Bool.not_false, Bool.and_true]
      rfl
    refine ⟨fun waits => ?_, fun first => ?_⟩
    · rw [go, if_neg (by simpa using waits)]
    · rw [go, if_pos (by simpa using first)]
      exact conditionPresent_reported _ u

/-! ### DEMAND DOWN (R79, R99, R102) -/

theorem demandDown_bound {c : EngineCache} {w : Wheel} {e : EngineId} (bound : (c.store[w]).bound = some e) :
    c.demandDown w = if (c.engines[e]).state = .active then c.wouldIdle e w else c := by
  rw [EngineCache.demandDown, bound]

theorem wouldIdle_idles {c : EngineCache} (e : EngineId) (w : Wheel) (none : c.starved = []) : c.wouldIdle e w
    = { c.setEngine e { c.engines[e] with state := .idle, settle := 0, ticked := true } with lru := e :: c.lru } := by
  unfold EngineCache.wouldIdle
  split
  · rfl
  · next waits => rw [none] at waits; cases waits

theorem wouldIdle_handsOver {c : EngineCache} (w : Wheel) {e : EngineId} {h : Wheel} {more : List Wheel}
    (starved : c.starved = h :: more) : c.wouldIdle e w = if (c.engines[e]).dirty then
        { c with starved := more }.startWriteBack e w (some h)
      else ({ c with starved := more }.bindWheel w none).startLoad e h := by
  rw [EngineCache.wouldIdle, starved]

theorem demandDown_fell (w : Wheel) (c : EngineCache) : DemandFell w c (c.demandDown w) := by
  constructor
  case starved =>
    intro unbound
    rw [EngineCache.demandDown, unbound]
  case waiting =>
    intro e bound still
    rw [demandDown_bound bound, if_neg still]
  case idle =>
    intro e bound active none
    rw [demandDown_bound bound, if_pos active, wouldIdle_idles e w none]
    rfl
  case handedClean =>
    intro e h more bound active starved clean
    rw [demandDown_bound bound, if_pos active, wouldIdle_handsOver w starved, clean, EngineCache.handedOver, starved,
      ← bind_after_unbind c.store w h]
    rfl
  case handedDirty =>
    intro e h more bound active starved dirty
    rw [demandDown_bound bound, if_pos active, wouldIdle_handsOver w starved, dirty, EngineCache.handedOver, starved,
      ← bind_after_unbind c.store w h]
    rfl

/-! ### A count that goes down (R77, R79) -/

/-- The count, the demand and the Engine Cache after a count has gone down. -/
theorem countDown_cases (s : State) (row : BusRow) (w : Wheel) :
    (s.bus.countOf row w = 0 → s.countDown row w = s) ∧
    (s.bus.countOf row w ≠ 0 →
      (s.countDown row w).bus = s.bus.setCount row w (s.bus.countOf row w - 1) (s.bus.demand[w] - 1) ∧
      (s.countDown row w).eng = if s.bus.demand[w] = 1 then s.eng.demandDown w else s.eng) := by
  unfold State.countDown
  dsimp only
  refine ⟨fun zero => if_pos zero, fun counts => ?_⟩
  rw [if_neg counts]
  split
  · refine ⟨by rw [(State.setEngEasing_frame _ _).bus (by decide)]; rfl, ?_⟩
    unfold State.setEngEasing
    dsimp only
    split
    · exact (State.conditionAbsent_frame _ _).eng (by decide)
    · rfl
  · exact ⟨rfl, rfl⟩

theorem demand_setCount (b : BusMatrix) (row : BusRow) (w v : Wheel) (n d : Nat) :
    (b.setCount row w n d).demand[v] = if v = w then d else b.demand[v] := by
  unfold BusMatrix.setCount
  by_cases e : v = w
  · subst e
    simp
  · have ne : (w : Nat) ≠ v := fun h => e (Fin.ext h.symm)
    simp [e, Vector.getElem_set_ne, ne]

end Sys2Proof.Machine.Keys
end

section
/-!
PROOFS. The statement on the head of the Contact Schedule when it is due (03_keys_and_the_key_map.md R53,
04_contact_sequencing.md R67 to R70).
-/

namespace Sys2Proof.Machine.Keys

open Sys2Proof.Machine.Requests

/-! ### A key after one of its entries (R53) -/

/-- What the end of an entry's application leaves and changes, whatever the key's state. -/
structure EntrySettled (k : KeyId) (s t : State) : Prop where
  frame : Frame [.key, .prc] s t
  others : ∀ j : KeyId, j ≠ k → t.key.records[j] = s.key.records[j]
  travel : (t.key.records[k]).travel = (s.key.records[k]).travel
  contact : ∀ j c, t.contact j c = s.contact j c
  down : s.hasEntry k = false → s.keyState k = .descending → t.keyState k = .down
  up : s.hasEntry k = false → s.keyState k = .ascending → t.keyState k = .up
  still : s.hasEntry k = true → t.keyState k = s.keyState k
  prc : t.prc = if keyManual k = .upper ∧ s.hasEntry k = false ∧ s.keyState k = .ascending ∧ t.manualUp .upper = true
    then s.prc.rearmed else s.prc

theorem settleKey_entry (k : KeyId) (s : State) : EntrySettled k s (s.settleKey k) := by
  by_cases moves : s.keyState k = .descending ∨ s.keyState k = .ascending
  · obtain ⟨kind, moving⟩ : ∃ kind : Transition, s.keyState k = kind.moving := by
      rcases moves with e | e
      · exact ⟨.close, e⟩
      · exact ⟨.open_, e⟩
    obtain ⟨frame, others, travel, contact, state, prc⟩ := settleKey_settled moving
    refine ⟨frame, others, travel, contact, fun last e => ?_, fun last e => ?_, fun more => ?_, ?_⟩
    · cases kind with
      | close => rw [state, last]; rfl
      | open_ => rw [moving] at e; cases e
    · cases kind with
      | close => rw [moving] at e; cases e
      | open_ => rw [state, last]; rfl
    · rw [state, more, moving]
      rfl
    · rw [prc]
      refine if_congr ⟨fun ⟨opens, upper, up⟩ => ⟨upper, ?_, by rw [moving, opens]; rfl, up⟩,
        fun ⟨upper, _, ascends, up⟩ => ⟨?_, upper, up⟩⟩ rfl rfl
      · refine Bool.eq_false_iff.mpr fun more => ?_
        rw [more, if_pos rfl] at state
        have notUp := manualUp_false (s := s.settleKey k) (k := k) (by rw [state]; exact moving_ne_up kind)
        rw [upper, up] at notUp
        cases notUp
      · cases kind with
        | close => rw [moving] at ascends; cases ascends
        | open_ => rfl
  · obtain ⟨down, up⟩ := not_or.mp moves
    rw [settleKey_still down up]
    exact ⟨.refl _ _, fun _ _ => rfl, rfl, fun _ _ => rfl, fun _ e => absurd e down, fun _ e => absurd e up,
      fun _ => rfl, (if_neg fun h => up h.2.2.1).symm⟩

/-! ### The due head (R67) -/

/-- The state with the schedule's rest. -/
def popped (rest : List ScheduleEntry) (s : State) : State := s.setSeq { s.seq with schedule := rest }

theorem popped_frame (rest : List ScheduleEntry) (s : State) : Frame [.seq] s (popped rest s) :=
  Frame.setSeq s _ (.inl (by decide)) (.inr rfl)

section
variable {s : State} {x : ScheduleEntry} {rest : List ScheduleEntry}

theorem applyHead_empty (h : s.seq.schedule = []) : s.applyHead = s := by rw [State.applyHead, h]

theorem applyHead_waiting (h : s.seq.schedule = x :: rest) (later : x.due ≠ s.seq.tickCount) : s.applyHead = s := by
  rw [State.applyHead, h]
  exact if_neg later

theorem applyHead_due (h : s.seq.schedule = x :: rest) (due : x.due = s.seq.tickCount) :
    s.applyHead = ((popped rest s).applyTransition x.key x.contact x.kind).settleKey x.key := by
  rw [State.applyHead, h]
  exact if_pos due

theorem exec_scheduleEntryDue (running : s.Running) : exec .scheduleEntryDue s = .next s.applyHead :=
  whenRunning_running running

end

/-- From s to t the due head of the schedule has been applied, and no release has ended it. -/
structure EntryApplied (x : ScheduleEntry) (rest : List ScheduleEntry) (s t : State) : Prop where
  schedule : t.seq.schedule = rest
  others : ∀ j : KeyId, j ≠ x.key → t.key.records[j] = s.key.records[j]
  travel : (t.key.records[x.key]).travel = (s.key.records[x.key]).travel
  contact : ∀ j d, t.contact j d
    = if j = x.key ∧ d = x.contact then movedContact s x.key x.kind x.contact else s.contact j d
  down : (∀ y ∈ rest, y.key ≠ x.key) → s.keyState x.key = .descending → t.keyState x.key = .down
  up : (∀ y ∈ rest, y.key ≠ x.key) → s.keyState x.key = .ascending → t.keyState x.key = .up
  still : (¬ ∀ y ∈ rest, y.key ≠ x.key) → t.keyState x.key = s.keyState x.key
  prc : t.prc = (let q := movedPrc x.kind [x.contact] s.prc
    if keyManual x.key = .upper ∧ (∀ y ∈ rest, y.key ≠ x.key) ∧ s.keyState x.key = .ascending ∧
      t.manualUp .upper = true then q.rearmed else q)

theorem entryApplied_of {x : ScheduleEntry} {rest : List ScheduleEntry} {s u : State}
    (made : Transitions x.kind x.key [x.contact] (popped rest s) u) (schedule : u.seq.schedule = rest) :
    EntryApplied x rest s (u.settleKey x.key) := by
  have moved : ∀ c, movedContact (popped rest s) x.key x.kind c = movedContact s x.key x.kind c := fun c => by
    cases x.kind <;> rfl
  have last : u.hasEntry x.key = false ↔ ∀ y ∈ rest, y.key ≠ x.key := by rw [hasEntry_false, schedule]
  have state : u.keyState x.key = s.keyState x.key := (made.state x.key).1
  obtain ⟨frame, others, travel, contact, down, up, still, prc⟩ := settleKey_entry x.key u
  have contacts : ∀ j d, (u.settleKey x.key).contact j d
      = if j = x.key ∧ d = x.contact then movedContact s x.key x.kind x.contact else s.contact j d := fun j d => by
    rw [contact, made.contact, moved]
    by_cases e : j = x.key ∧ d = x.contact
    · rw [if_pos e, if_pos ⟨e.1, List.mem_singleton.mpr e.2⟩, e.2]
    · rw [if_neg e, if_neg fun h => e ⟨h.1, List.mem_singleton.mp h.2⟩]
      rfl
  refine ⟨(frame.seq (by decide)).trans schedule, fun j n => ?_, travel.trans (made.state x.key).2, contacts,
    fun l e => down (last.mpr l) (by rw [state, e]), fun l e => up (last.mpr l) (by rw [state, e]),
    fun l => (still (Bool.eq_true_of_not_eq_false fun h => l (last.mp h))).trans state, ?_⟩
  · refine record_ext ?_ ?_ fun c => by rw [contacts, if_neg fun h => n h.1]
    · rw [others j n]
      exact (made.state j).1
    · rw [others j n]
      exact (made.state j).2
  · rw [prc, made.prc, state]
    exact if_congr (and_congr_right fun _ => and_congr_left fun _ => last) rfl rfl

/-! ### A due CLOSE (R68, R69) -/

/-- The Engine Cache, the counters, the Fault Unit, the queues and the outputs of two states are the same. -/
structure SameCache (t v : State) : Prop where
  eng : t.eng = v.eng
  cnt : t.cnt = v.cnt
  flt : t.flt = v.flt
  lnk : t.lnk = v.lnk
  out : t.out = v.out

theorem SameCache.of_frame {t v : State} (f : Frame [.key, .seq, .bus, .prc] v t) : SameCache t v :=
  ⟨f.eng (by decide), f.cnt (by decide), f.flt (by decide), f.allLnk (by decide) (by decide) (by decide),
    f.allOut (by decide) (by decide)⟩

theorem strike_frame (k : KeyId) (c : ContactId) (s : State) :
    Frame [.prc] (s.closeOn k c (s.wheelToBind k c)) (s.applyClose k c) := by
  unfold State.applyClose
  dsimp only
  split
  · exact Frame.setPrc (by decide) _ _
  · exact .refl _ _

/-- After the Engine Cache has heard of a CLOSE only its click, its strike and its key's arrival follow. -/
theorem applyClose_demanded {k : KeyId} {c : ContactId} {w : Wheel} {s : State} (bound : s.assignedWheel k c = some w) :
    Frame [.bus, .prc] (demandedOn k c w s) (s.applyClose k c) := by
  have strikes := strike_frame k c s
  rw [State.wheelToBind_eq_assignedWheel, bound, closeOn_some] at strikes
  exact ((State.startClick_frame _ _ _).mono (by decide)).trans (strikes.mono (by decide))

theorem applyClose_unbound {k : KeyId} {c : ContactId} {s : State} (bound : s.assignedWheel k c = none) :
    Frame [.key, .prc] s (s.applyClose k c) := by
  have strikes := strike_frame k c s
  rw [State.wheelToBind_eq_assignedWheel, bound, closeOn_none] at strikes
  exact ((s.setContact_frame _ _ _).mono (by decide)).trans (strikes.mono (by decide))

/-- The demand of every wheel after a CLOSE that no release has ended. -/
theorem applyClose_demand {k : KeyId} {c : ContactId} {w : Wheel} {s : State} (bound : s.assignedWheel k c = some w) :
    (∀ v : Wheel, (s.applyClose k c).bus.demand[v] = if v = w then s.bus.demand[w] + 1 else s.bus.demand[v]) ∨
      (s.faultAction .engineShortage = .release ∧ AllReleased (s.applyClose k c)) := by
  have strikes := strike_frame k c s
  rw [State.wheelToBind_eq_assignedWheel, bound, closeOn_some] at strikes
  rcases demandedOn_cases k c w s with d | ⟨action, all⟩
  · refine .inl fun v => ?_
    have demand : (demandedOn k c w s).bus.demand[v] = if v = w then s.bus.demand[w] + 1 else s.bus.demand[v] := by
      rw [d.frame.bus (by decide), countedOn, State.setBus_bus]
      exact demand_setCount _ _ _ _ _ _
    rw [strikes.bus (by decide)]
    exact demand
  · exact .inr ⟨action, allReleased_of_frame
      (allReleased_of_frame all (State.startClick_frame _ _ _) (by decide) (by decide)) strikes (by decide) (by decide)⟩

/-- A due CLOSE: its entry is applied, and the demand of its wheel has risen, unless a release has ended it. -/
theorem closeDue_cases (x : ScheduleEntry) (rest : List ScheduleEntry) (s : State) (close : x.kind = .close) :
    let u := (popped rest s).applyClose x.key x.contact
    (EntryApplied x rest s (u.settleKey x.key) ∧ Transitions .close x.key [x.contact] (popped rest s) u ∧
        ∀ w, s.assignedWheel x.key x.contact = some w → ∀ v : Wheel,
          u.bus.demand[v] = if v = w then s.bus.demand[w] + 1 else s.bus.demand[v]) ∨
      (s.faultAction .engineShortage = .release ∧ AllReleased (u.settleKey x.key)) := by
  intro u
  rcases applyClose_cases x.key x.contact (popped rest s) with ⟨made, schedule⟩ | ⟨action, all⟩
  · have whole : EntryApplied x rest s (u.settleKey x.key) := entryApplied_of (by rw [close]; exact made) schedule
    cases bound : s.assignedWheel x.key x.contact with
    | none => exact .inl ⟨whole, made, nofun⟩
    | some w =>
      rcases applyClose_demand (s := popped rest s) bound with demand | ⟨action, all⟩
      · refine .inl ⟨whole, made, fun w' e => ?_⟩
        cases e
        exact demand
      · exact .inr ⟨action, settleKey_released all _⟩
  · exact .inr ⟨action, settleKey_released all _⟩

/-- From s to t a due CLOSE has been applied, and no release has ended it. -/
structure EntryClosed (x : ScheduleEntry) (rest : List ScheduleEntry) (s t : State) : Prop where
  applied : EntryApplied x rest s t
  unbound : s.assignedWheel x.key x.contact = none → t.bus = s.bus ∧ SameCache t s
  clicks : ∀ w, s.assignedWheel x.key x.contact = some w →
    t.bus.clicks = clicksWith s.bus.clicks [⟨keyManual x.key, s.seq.tickCount, true⟩]
  counts : ∀ w, s.assignedWheel x.key x.contact = some w → ∀ row v, t.bus.countOf row v
    = s.bus.countOf row v + if contactRow (keyManual x.key) x.contact = row ∧ w = v then 1 else 0
  demand : ∀ w, s.assignedWheel x.key x.contact = some w → ∀ v : Wheel,
    t.bus.demand[v] = if v = w then s.bus.demand[w] + 1 else s.bus.demand[v]
  quiet : ∀ w, s.assignedWheel x.key x.contact = some w → s.bus.demand[w] ≠ 0 → SameCache t s
  rose : ∀ w, s.assignedWheel x.key x.contact = some w → s.bus.demand[w] = 0 →
    SameCache t ((countedOn x.key x.contact w (popped rest s)).demandUp w)

theorem closeDue {x : ScheduleEntry} {rest : List ScheduleEntry} {s : State} (h : s.seq.schedule = x :: rest)
    (due : x.due = s.seq.tickCount) (close : x.kind = .close) : EntryClosed x rest s s.applyHead ∨
      (s.faultAction .engineShortage = .release ∧ AllReleased s.applyHead) := by
  have go : s.applyHead = ((popped rest s).applyClose x.key x.contact).settleKey x.key := by
    rw [applyHead_due h due, close]
    rfl
  have settles := State.settleKey_frame x.key ((popped rest s).applyClose x.key x.contact)
  rw [go]
  refine (closeDue_cases x rest s close).imp_left fun ⟨applied, made, demand⟩ => ⟨applied, fun none => ?_,
    fun w bound => ?_, fun w bound row v => ?_, fun w bound v => ?_, fun w bound demanded => ?_,
    fun w bound zero => ?_⟩
  · have whole : Frame [.key, .seq, .prc] s (((popped rest s).applyClose x.key x.contact).settleKey x.key) :=
      (((popped_frame rest s).mono (by decide)).trans ((applyClose_unbound (s := popped rest s) none).mono
        (by decide))).trans (settles.mono (by decide))
    exact ⟨whole.bus (by decide), .of_frame (whole.mono (by decide))⟩
  · have assigned : (popped rest s).assignedWheel x.key x.contact = some w := bound
    rw [settles.bus (by decide), made.clicks, movedClicks]
    simp only [assigned, List.filter_cons, Option.isSome_some, if_true, List.filter_nil, List.map_cons, List.map_nil]
    rfl
  · have assigned : (popped rest s).assignedWheel x.key x.contact = some w := bound
    rw [settles.bus (by decide), made.counts, movedCount, closingCount]
    refine congrArg (s.bus.countOf row v + ·) ?_
    by_cases e : contactRow (keyManual x.key) x.contact = row ∧ w = v <;> simp [assigned, e]
  · rw [settles.bus (by decide)]
    exact demand w bound v
  · have counted := applyClose_demanded (s := popped rest s) bound
    rw [demandedOn, if_neg (by exact demanded)] at counted
    have whole : Frame [.key, .seq, .bus, .prc] s (countedOn x.key x.contact w (popped rest s)) :=
      ((popped_frame rest s).mono (by decide)).trans ((countedOn_frame _ _ _ _).mono (by decide))
    exact .of_frame ((whole.trans (counted.mono (by decide))).trans (settles.mono (by decide)))
  · have counted := applyClose_demanded (s := popped rest s) bound
    rw [demandedOn, if_pos (by exact zero)] at counted
    exact .of_frame ((counted.mono (by decide)).trans (settles.mono (by decide)))

/-! ### A due OPEN (R70) -/

theorem applyOpen_some {k : KeyId} {c : ContactId} {w : Wheel} {s : State} (e : s.contact k c = .closed (some w)) :
    s.applyOpen k c = ((s.setContact k c .opened).countDown (contactRow (keyManual k) c) w).startClick
      (keyManual k) false := by rw [State.applyOpen, e]

/-- An OPEN of a contact that is on no wheel changes no bus and no engine. -/
theorem applyOpen_unbound {k : KeyId} {c : ContactId} {s : State} (e : ∀ w, s.contact k c ≠ .closed (some w)) :
    Frame [.key] s (s.applyOpen k c) := by
  unfold State.applyOpen
  split
  · exact .refl _ _
  · exact s.setContact_frame _ _ _
  · next w bound => exact absurd bound (e w)

/-- The demand and the Engine Cache after an OPEN on a wheel. -/
theorem applyOpen_demand {k : KeyId} {c : ContactId} {w : Wheel} {s : State} (e : s.contact k c = .closed (some w)) :
    (s.bus.countOf (contactRow (keyManual k) c) w ≠ 0 →
      (∀ v : Wheel, (s.applyOpen k c).bus.demand[v] = if v = w then s.bus.demand[w] - 1 else s.bus.demand[v]) ∧
      (s.applyOpen k c).eng = if s.bus.demand[w] = 1 then s.eng.demandDown w else s.eng) ∧
    (s.bus.countOf (contactRow (keyManual k) c) w = 0 → (s.applyOpen k c).eng = s.eng) := by
  rw [applyOpen_some e]
  obtain ⟨zero, falls⟩ := countDown_cases (s.setContact k c .opened) (contactRow (keyManual k) c) w
  refine ⟨fun n => ?_, fun n => ?_⟩
  · obtain ⟨bus, eng⟩ := falls n
    refine ⟨fun v => ?_, eng⟩
    show (State.bus (State.countDown _ _ _)).demand[v] = _
    rw [bus]
    exact demand_setCount _ _ _ _ _ _
  · show (State.countDown _ _ _).eng = _
    rw [zero n]
    rfl

/-- From s to t a due OPEN has been applied. -/
structure EntryOpened (x : ScheduleEntry) (rest : List ScheduleEntry) (s t : State) : Prop where
  applied : EntryApplied x rest s t
  frame : Frame [.key, .seq, .bus, .eng, .prc, .flt] s t
  eases : ShortageEases s t
  unbound : (∀ w, s.contact x.key x.contact ≠ .closed (some w)) → t.bus = s.bus ∧ t.eng = s.eng
  clicks : ∀ w, s.contact x.key x.contact = .closed (some w) →
    t.bus.clicks = clicksWith s.bus.clicks [⟨keyManual x.key, s.seq.tickCount, false⟩]
  counts : ∀ w, s.contact x.key x.contact = .closed (some w) → ∀ row v, t.bus.countOf row v
    = s.bus.countOf row v - if contactRow (keyManual x.key) x.contact = row ∧ w = v then 1 else 0
  demand : ∀ w, s.contact x.key x.contact = .closed (some w) →
    s.bus.countOf (contactRow (keyManual x.key) x.contact) w ≠ 0 →
    (∀ v : Wheel, t.bus.demand[v] = if v = w then s.bus.demand[w] - 1 else s.bus.demand[v]) ∧
      t.eng = if s.bus.demand[w] = 1 then s.eng.demandDown w else s.eng
  cache : ∀ w, s.contact x.key x.contact = .closed (some w) →
    s.bus.countOf (contactRow (keyManual x.key) x.contact) w = 0 → t.eng = s.eng

theorem openDue {x : ScheduleEntry} {rest : List ScheduleEntry} {s : State} (h : s.seq.schedule = x :: rest)
    (due : x.due = s.seq.tickCount) (opens : x.kind = .open_) : EntryOpened x rest s s.applyHead := by
  have go : s.applyHead = ((popped rest s).applyOpen x.key x.contact).settleKey x.key := by
    rw [applyHead_due h due, opens]
    rfl
  have pops := popped_frame rest s
  have opened := applyOpen_opened x.key x.contact (popped rest s)
  have frame := (popped rest s).applyOpen_frame x.key x.contact
  have settles := State.settleKey_frame x.key ((popped rest s).applyOpen x.key x.contact)
  rw [go]
  refine ⟨entryApplied_of (by rw [opens]; exact applyOpen_transitions _ _ _) (frame.seq (by decide)),
    ((pops.mono (by decide)).trans (frame.mono (by decide))).trans (settles.mono (by decide)),
    (((Eases.of_frame pops (by decide) (by decide) (by decide)).trans opened.eases).trans
      (.of_frame settles (by decide) (by decide) (by decide))).shortage,
    fun none => ?_, fun w bound => ?_, fun w bound row v => ?_, fun w bound counts => ?_, fun w bound none => ?_⟩
  · have same := applyOpen_unbound (s := popped rest s) none
    exact ⟨(settles.bus (by decide)).trans (same.bus (by decide)), (settles.eng (by decide)).trans (same.eng (by decide))⟩
  · have closed : (popped rest s).contact x.key x.contact = .closed (some w) := bound
    rw [settles.bus (by decide), opened.clicks, State.openingClicks]
    simp only [closed, List.filter_cons, if_true, List.filter_nil, List.map_cons, List.map_nil]
    rfl
  · have closed : (popped rest s).contact x.key x.contact = .closed (some w) := bound
    rw [settles.bus (by decide), opened.counts, State.openingCount]
    refine congrArg (s.bus.countOf row v - ·) ?_
    by_cases e : contactRow (keyManual x.key) x.contact = row ∧ w = v <;> simp [closed, e]
  · rw [settles.bus (by decide), settles.eng (by decide)]
    exact (applyOpen_demand (s := popped rest s) bound).1 counts
  · exact (settles.eng (by decide)).trans ((applyOpen_demand (s := popped rest s) bound).2 none)

/-! ### The statement -/

/-- A transition that opens strikes nothing. -/
theorem movedPrc_opens (l : List ContactId) (p : Percussion) : movedPrc .open_ l p = p :=
  if_neg fun h => nomatch h.1

theorem movedPrc_closes (c : ContactId) (p : Percussion) :
    movedPrc .close [c] p = if c = 9 then p.struck else p := by
  unfold movedPrc
  exact if_congr (by simp [eq_comm]) rfl rfl

/-- Settles O39: the due head leaves the schedule, its transition is made, and its key arrives after its last. -/
theorem dueEntryIsApplied : Obligations.DueEntryIsApplied := by
  intro s running
  refine ⟨fun h => by rw [exec_scheduleEntryDue running, applyHead_empty h], fun x rest h => ?_⟩
  intro m row last bound clicked counted sameCache
  refine ⟨fun later => by rw [exec_scheduleEntryDue running, applyHead_waiting h later], fun due => ?_⟩
  refine ⟨s.applyHead, exec_scheduleEntryDue running, s.applyHead_frame.mono (by decide), ?_⟩
  intro settled arrived closed
  have settles : EntryApplied x rest s s.applyHead → settled := fun a =>
    ⟨a.schedule, a.others, a.travel, fun c n => by rw [a.contact, if_neg fun h => n h.2], a.down, a.up, a.still⟩
  have same : ∀ {t v}, SameCache t v → sameCache t v := fun c => ⟨c.eng, c.cnt, c.flt, c.lnk, c.out⟩
  refine ⟨fun close => ?_, fun opens => ?_⟩
  · have all : closed ∨ (s.faultAction .engineShortage = .release ∧ AllReleased s.applyHead) := by
      refine (closeDue h due close).imp_left fun a => ⟨settles a.applied, ?_, ?_, fun none => ?_, fun w assigned => ?_⟩
      · rw [a.applied.contact, if_pos ⟨rfl, rfl⟩, close]
        rfl
      · rw [a.applied.prc, close, movedPrc_closes]
      · exact ⟨(a.unbound none).1, same (a.unbound none).2⟩
      · refine ⟨a.clicks w assigned, ⟨?_, ?_, fun row' w' other => ?_, fun w' n => ?_⟩,
          fun demanded => same (a.quiet w assigned demanded), fun zero => ⟨_, same (a.rose w assigned zero),
            demandUp_rose w (countedOn x.key x.contact w (popped rest s))⟩⟩
        · rw [a.counts w assigned, if_pos ⟨rfl, rfl⟩]
        · rw [a.demand w assigned, if_pos rfl]
        · rw [a.counts w assigned, if_neg fun e => other.elim (fun n => n e.1.symm) fun n => n e.2.symm, Nat.add_zero]
        · rw [a.demand w assigned, if_neg n]
    exact ⟨fun quiet => all.resolve_right fun r => quiet r.1, all.imp_right fun r => r.2⟩
  · have a := openDue h due opens
    refine ⟨settles a.applied, ?_, ?_, a.frame, a.eases, a.unbound, fun w was => ⟨a.clicks w was, fun counts => ?_,
      fun counts one => ?_, fun still => ?_⟩⟩
    · rw [a.applied.contact, if_pos ⟨rfl, rfl⟩, opens]
      rfl
    · rw [a.applied.prc, opens, movedPrc_opens]
    · obtain ⟨demand, _⟩ := a.demand w was counts
      refine ⟨?_, by rw [demand, if_pos rfl], fun row' w' other => ?_, fun w' n => by rw [demand, if_neg n]⟩
      · rw [a.counts w was, if_pos ⟨rfl, rfl⟩]
      · rw [a.counts w was, if_neg fun e => other.elim (fun n => n e.1.symm) fun n => n e.2.symm, Nat.sub_zero]
    · rw [(a.demand w was counts).2, if_pos one]
      exact demandDown_fell w s.eng
    · by_cases zero : s.bus.countOf row w = 0
      · exact a.cache w was zero
      · rw [(a.demand w was zero).2, if_neg (still.resolve_left zero)]

end Sys2Proof.Machine.Keys
end

section
/-!
PROOFS. The laws of the state after a reset (R57, R75, R92, R117, R149, R166, R178, R191).
-/

namespace Sys2Proof.Machine.Keys

open Sys2Proof.Machine.Requests

/-! ### Keys, counts and percussion as a full reset leaves them -/

/-- The blocks that the laws of the keys speak of are in their full-reset state. -/
structure KeysReset (s : State) : Prop where
  key : s.key = KeyUnit.reset
  seq : s.seq = Sequencer.reset
  bus : s.bus = BusMatrix.reset
  prc : s.prc = Percussion.reset

theorem KeysReset.idle {s : State} (h : KeysReset s) : KeysIdle s := ⟨by rw [h.key]; rfl, by rw [h.seq]; rfl⟩

/-- Percussion is off after a full reset, and every UPPER key is UP (R149). -/
theorem KeysReset.envelope {s : State} (h : KeysReset s) : s.EnvelopeLawful := by
  constructor <;> rw [h.prc]
  · exact iff_of_true rfl rfl
  · exact nofun
  · exact nofun
  · exact nofun
  · exact fun _ => rfl

theorem KeysReset.laws {s : State} (h : KeysReset s) : KeyLaws s :=
  keyLaws_of_idle h.idle (fun row w => by rw [h.bus, countOf_reset]) h.envelope

theorem KeysReset.demand {s : State} (h : KeysReset s) (w : Wheel) : s.bus.demand[w] = 0 := by
  rw [h.bus]
  simp [BusMatrix.reset]

theorem KeysReset.demandIsSum {s : State} (h : KeysReset s) : s.DemandIsSum := by
  intro w
  rw [h.demand, h.bus, BusMatrix.total]
  simp only [countOf_reset]
  decide

/-! ### The Engine Cache as a full reset leaves it -/

theorem engine_reset (e : EngineId) : EngineCache.reset.engines[e] = Engine.reset := by simp [EngineCache.reset]

theorem unbound_reset (w : Wheel) : (EngineCache.reset.store[w]).bound = none := by simp [EngineCache.reset]

theorem listed_reset : EngineCache.reset.Listed := by
  constructor <;> intro e <;> rw [engine_reset]
  · rw [if_pos (show Engine.reset.state = .free from rfl)]
    exact List.count_eq_one_of_mem (List.nodup_finRange 64) (List.mem_finRange e)
  all_goals rfl

theorem enginesBound_reset {s : State} (eng : s.eng = EngineCache.reset) (demand : ∀ w : Wheel, s.bus.demand[w] = 0) :
    s.EnginesBound := by
  constructor <;> rw [eng]
  · intro e
    rw [engine_reset]
    exact ⟨fun _ => ⟨rfl, rfl⟩, nofun, nofun, by decide, fun _ => rfl⟩
  · intro w e
    rw [unbound_reset, EngineCache.Serves, engine_reset]
    exact iff_of_false nofun fun h => h.elim (fun l => nomatch l.2) fun r => nomatch r.1
  · intro e w active
    rw [engine_reset] at active
    cases active
  · intro e w idle
    rw [engine_reset] at idle
    cases idle
  · intro w
    rw [if_neg fun h => h.1 (demand w)]
    rfl
  · exact nofun

/-! ### Fault Unit and outputs as a full reset leaves them -/

/-- The signals follow the records, and the records hold actions only where their mode has episodes. -/
structure SignalLaws (s : State) : Prop where
  signalled : s.Signalled
  allowed : s.EpisodesAllowed

theorem record_reset {s : State} (flt : s.flt = FaultUnit.reset) (k : FaultKind) : s.record k = FaultRecord.clear := by
  rw [State.record, flt]
  simp [FaultUnit.reset]

/-- With no record set and no limit flag, only the mute request stands, outside PLAYING. -/
theorem signalled_quiet {s : State} (clear : ∀ k, s.record k = FaultRecord.clear)
    (limits : s.anyLimitFlag = false) (hold : s.key.hold = false) (mute : s.out.muteRequest = true)
    (silent : s.req.opState ≠ .playing) (fault : s.flt.fault = false) (warn : s.flt.warn = false) : s.Signalled := by
  have none : ∀ a, s.inForce a = false := fun a => by
    rw [State.inForce, List.any_eq_false]
    intro k _
    rw [clear]
    exact nofun
  have flags : ∀ p : FaultKind → Bool, allKinds.any (fun k => p k && (s.record k).flag) = false := fun p => by
    rw [List.any_eq_false]
    intro k _
    rw [clear, FaultRecord.clear, Bool.and_false]
    exact nofun
  constructor
  · rw [hold, State.holdWanted, none]
  · rw [mute, State.muteWanted, bne_iff_ne.mpr silent, Bool.true_or]
  · rw [fault, State.faultWanted, none, none, none, flags]
    rfl
  · rw [warn, State.warnWanted, flags, limits]
    rfl

theorem noLimitFlag_reset {s : State} (out : s.out = OutputUnit.reset) : s.anyLimitFlag = false := by
  rw [State.anyLimitFlag, out]
  rfl

theorem signalLaws_reset {s : State} (flt : s.flt = FaultUnit.reset) (out : s.out = OutputUnit.reset)
    (key : s.key = KeyUnit.reset) (silent : s.req.opState ≠ .playing) (cursor : s.req.cursor = none) :
    SignalLaws s := by
  have clear := record_reset flt
  refine ⟨signalled_quiet clear (noLimitFlag_reset out) (by rw [key]; rfl) (by rw [out]; rfl) silent
    (by rw [flt]; rfl) (by rw [flt]; rfl), fun k held => ?_, fun _ => ⟨cursor, fun k => ?_⟩⟩
  · rw [clear] at held
    cases held
  · rw [clear]
    rfl

/-! ### The state after reset -/

theorem keysReset_reset : KeysReset State.reset := ⟨rfl, rfl, rfl, rfl⟩

theorem bounded_reset : State.reset.Bounded := by constructor <;> decide

theorem rotor_reset (i : RotorId) : State.reset.rot.rotor i = Rotor.reset := by cases i <;> rfl

theorem rotorsLawful_reset : State.reset.RotorsLawful := by
  refine ⟨fun i => ?_, fun i => ⟨nofun, nofun, fun _ => ?_⟩, fun _ => rfl⟩
  · rw [rotor_reset]
    constructor <;> decide
  · rw [rotor_reset]
    exact ⟨nofun, nofun, nofun, fun h => h.elim nofun nofun⟩

/-- Settles O60: every block has its laws in its full-reset state, and a reset release changes none of these. -/
theorem resetSatisfiesLaws : Obligations.ResetSatisfiesLaws := by
  obtain ⟨counts, keys, envelope⟩ := keysReset_reset.laws
  obtain ⟨signalled, allowed⟩ := signalLaws_reset (s := State.reset) rfl rfl rfl (by decide) rfl
  exact ⟨counts, keys, envelope, keysReset_reset.demandIsSum, listed_reset, fun h => absurd rfl h,
    enginesBound_reset rfl keysReset_reset.demand, bounded_reset, signalled, allowed, rotorsLawful_reset⟩

end Sys2Proof.Machine.Keys
end

section
/-!
PROOFS. What the processes of a tick and the output stage leave of the clock monitor (R167).
-/

namespace Sys2Proof.Machine

open Sys2Proof.Machine.Requests

/-- What the clock monitor keeps: the source, the missed edges, the run of good periods, and the internal periods
without an edge (R167). -/
structure ClockMonitor where
  source : ClockSource
  missing : Nat
  goodRun : Nat
  quietPeriods : Nat
  edgeSeen : Bool

/-- The clock monitor's part of OUT. -/
def OutputUnit.monitor (o : OutputUnit) : ClockMonitor :=
  ⟨o.source, o.missing, o.goodRun, o.quietPeriods, o.edgeSeen⟩

theorem OutputUnit.monitor_eq_iff {o p : OutputUnit} : o.monitor = p.monitor ↔ o.source = p.source ∧
    o.missing = p.missing ∧ o.goodRun = p.goodRun ∧ o.quietPeriods = p.quietPeriods ∧ o.edgeSeen = p.edgeSeen := by
  rw [monitor, monitor, ClockMonitor.mk.injEq]

theorem Frame.monitor {l : List Block} {s t : State} (f : Frame l s t) (n : Block.out ∉ l) :
    t.out.monitor = s.out.monitor := by
  show ({ t.out with muteRequest := s.out.muteRequest } : OutputUnit).monitor = _
  rw [f.out n]

theorem monitor_foldl {α : Type} {f : State → α → State} (h : ∀ s a, (f s a).out.monitor = s.out.monitor)
    (xs : List α) (s : State) : (xs.foldl f s).out.monitor = s.out.monitor :=
  xs.foldlRecOn f (motive := fun t => t.out.monitor = s.out.monitor) rfl fun t kept a _ => (h t a).trans kept

theorem asEvent_monitor {f : State → State} {s : State} (h : (f s).out.monitor = s.out.monitor) :
    (s.asEvent f).out.monitor = s.out.monitor := by
  rcases asEvent_or_countChange f s with e | e
  · rw [e, h]
  · rw [e, (State.countChange_frame _).monitor (by decide), h]

/-! ### Written entries -/

theorem modeWritten_monitor (o : OutputId) (old : Word) (s : State) :
    (s.modeWritten o old).out.monitor = s.out.monitor := by
  unfold State.modeWritten
  split <;> rfl

/-- Of OUT a written entry changes a limiter or the mute request at most (R176, R185). -/
theorem writeEntry_monitor (t : TableId) (s : State) (i : Nat) (ws : List Word) :
    (s.writeEntry t i ws).out.monitor = s.out.monitor := by
  unfold State.writeEntry
  split
  · exact (State.reconfigure_frame _ _ _).monitor (by decide)
  · dsimp only
    split
    · exact (State.silenceWritten_frame _).monitor (by decide)
    · split
      · exact (State.enableWritten_frame _ _).monitor (by decide)
      · rfl
  · split
    · rw [State.storeEntry, State.setTab_out, (State.retryTicks_frame s).monitor (by decide)]
    · rfl
  · dsimp only
    split
    · rw [(State.retarget_frame _ _).monitor (by decide), State.storeEntry, State.setTab_out]
    · rfl
  · dsimp only
    split
    · rw [modeWritten_monitor, State.storeEntry, State.setTab_out]
    · rfl
  · rfl

theorem writeList_monitor (t : TableId) (es : List (Nat × List Word)) (s : State) :
    (s.writeList t es).out.monitor = s.out.monitor := by
  unfold State.writeList
  refine monitor_foldl (fun u e => ?_) es s
  exact writeEntry_monitor t u e.1 e.2

theorem writeEntries_monitor (t : TableId) (es : List (Nat × List Word)) (s : State) :
    (s.writeEntries t es).out.monitor = s.out.monitor := by
  unfold State.writeEntries
  split
  · exact asEvent_monitor (f := State.writeList .faultConfiguration es) (writeList_monitor _ es s)
  · rw [(State.checkNotice_frame _).monitor (by decide), writeList_monitor]
  · exact writeList_monitor t es s

theorem restoreTick_monitor (s : State) : s.restoreTick.out.monitor = s.out.monitor := by
  unfold State.restoreTick
  split
  · rfl
  · dsimp only
    split
    · rfl
    · split <;> exact writeEntries_monitor _ _ s

/-! ### The processes of a tick -/

theorem tickLinkAndTables_monitor (s : State) : s.tickLinkAndTables.out.monitor = s.out.monitor := by
  rw [State.tickLinkAndTables, restoreTick_monitor, (State.windowTick_frame _).monitor (by decide),
    (State.quietTick_frame _).monitor (by decide), (State.initTick_frame _).monitor (by decide)]

theorem tickContactsAndEngines_monitor (s : State) : s.tickContactsAndEngines.out.monitor = s.out.monitor := by
  rw [State.tickContactsAndEngines, (State.settleTicks_frame _).monitor (by decide),
    (State.writeBackTick_frame _).monitor (by decide), (State.loadTick_frame _).monitor (by decide),
    (State.applyDue_frame _ _).monitor (by decide)]

theorem tickSound_monitor (s : State) : s.tickSound.out.monitor = s.out.monitor := by
  rw [State.tickSound, (State.rotorTick_frame _ _).monitor (by decide),
    (State.rotorTick_frame _ _).monitor (by decide), (State.halvingTick_frame _).monitor (by decide),
    (State.glideTicks_frame _).monitor (by decide), (State.expireClicks_frame _).monitor (by decide)]

theorem cascadeMissing_monitor (s : State) : s.cascadeMissing.out.monitor = s.out.monitor := by
  unfold State.cascadeMissing
  split <;> rfl

theorem tickFaults_monitor (s : State) : s.tickFaults.out.monitor = s.out.monitor := by
  rw [State.tickFaults, cascadeMissing_monitor, (State.waitingNotice_frame _).monitor (by decide),
    (State.noticeTick_frame _).monitor (by decide), (State.retryTicks_frame _).monitor (by decide),
    (State.silenceTick_frame _).monitor (by decide)]

theorem tickProcesses_monitor (s : State) : s.tickProcesses.out.monitor = s.out.monitor := by
  rw [State.tickProcesses, tickFaults_monitor, tickSound_monitor, tickContactsAndEngines_monitor,
    tickLinkAndTables_monitor]

/-! ### The output stage -/

theorem stepLimiter_monitor (x : Sample) (s : State) (o : OutputId) :
    (s.stepLimiter x o).out.monitor = s.out.monitor := by
  unfold State.stepLimiter
  dsimp only
  split
  · refine asEvent_monitor ?_
    rw [(State.refresh_frame _).monitor (by decide), (State.occur_frame _ _).monitor (by decide)]
    rfl
  · rfl

theorem stepLimiters_monitor (pre : Vector Sample 4) (s : State) :
    (s.stepLimiters pre).out.monitor = s.out.monitor := by
  unfold State.stepLimiters
  exact monitor_foldl (fun s o => stepLimiter_monitor pre[o] s o) allOutputs s

theorem stepFade_monitor (s : State) : s.stepFade.out.monitor = s.out.monitor := rfl

theorem sendPorts_monitor (pre : Vector Sample 4) (s : State) :
    (s.sendPorts pre).out.monitor = s.out.monitor := rfl

theorem outputStage_monitor (s : State) : s.outputStage.out.monitor = s.out.monitor := by
  unfold State.outputStage
  dsimp only
  split
  · rfl
  · rw [sendPorts_monitor, stepLimiters_monitor, stepFade_monitor, s.formAudio_frame.monitor (by decide)]

theorem beginTick_monitor (s : State) : s.beginTick.out.monitor = s.out.monitor := rfl

/-- A given tick leaves the clock monitor as it was. -/
theorem giveTick_monitor (s : State) : s.giveTick.out.monitor = s.out.monitor := by
  rw [State.giveTick, beginTick_monitor, State.finishTick, outputStage_monitor, tickProcesses_monitor]

end Sys2Proof.Machine
end

section
/-!
PROOFS. The clock monitor gives the ticks and changes the source (R60, R167, R181).
-/

namespace Sys2Proof.Machine

open Sys2Proof.Machine.Requests Sys2Proof.Machine.Keys

/-! ### The new tick (R60, R95, R98, R148, R168, R171) -/

theorem tickBegins_beginTick (u : State) : TickBegins u u.beginTick where
  lnk := rfl
  req := rfl
  seq := rfl
  engines _ := Vector.getElem_map ..
  eng := rfl
  glide _ := Vector.getElem_map ..
  reg := rfl
  prc := rfl
  rot := rfl
  out := rfl
  records _ := Vector.getElem_map ..
  flt := rfl
  others := by constructor <;> simp [State.beginTick]

/-- A given tick ends the present one as EPISODE_START does, and begins the next. -/
theorem giveTick_ticks {s : State} (run : s.Running) : ∃ u, exec .episodeStart s = .next u ∧
    TickBegins u s.giveTick ∧ s.giveTick.seq.tickCount = s.seq.tickCount + 1 :=
  ⟨s.finishTick, whenRunning_running run, tickBegins_beginTick _, s.giveTick_tickCount⟩

/-! ### The judgment of a period (R167) -/

theorem judgePeriod_short {p : Rat} (h : p < 1 / 52000) : judgePeriod p = .short := if_pos h

theorem judgePeriod_long {p : Rat} (h : 1 / 40000 < p) : judgePeriod p = .long := by
  rw [judgePeriod, if_neg (by linarith), if_pos h]

theorem judgePeriod_good_iff {p : Rat} : judgePeriod p = .good ↔ 1 / 52000 ≤ p ∧ p ≤ 1 / 40000 := by
  unfold judgePeriod
  split
  · next short => exact ⟨nofun, fun h => absurd h.1 (not_le.mpr short)⟩
  · next lower =>
    split
    · next long => exact ⟨nofun, fun h => absurd h.2 (not_le.mpr long)⟩
    · next upper => exact ⟨fun _ => ⟨not_lt.mp lower, not_lt.mp upper⟩, fun _ => rfl⟩

/-! ### The clock rows -/

theorem exec_wclkEdge {s : State} (run : s.Running) (p : Option Rat) :
    exec (.wclkEdge p) s = .next (s.clockEdge p) := whenRunning_running run

theorem exec_missingEdge {s : State} (run : s.Running) : exec .missingEdge s = .next s.missEdge :=
  whenRunning_running run

theorem exec_internalOscillatorTick {s : State} (run : s.Running) :
    exec .internalOscillatorTick s = .next s.oscillatorTick := whenRunning_running run

/-! ### Source EXTERNAL (R167) -/

theorem clockEdge_external {s : State} (ext : s.out.source = .external) (p : Rat) :
    s.clockEdge (some p) = s.externalEdge (judgePeriod p) := by
  simp only [State.clockEdge, ext]

theorem clockEdge_first_external {s : State} (ext : s.out.source = .external) : s.clockEdge none = s := by
  simp only [State.clockEdge, ext]

/-- The source that falls back, and the report of CLOCK_FALLBACK (R167, R181). -/
theorem fallBack_reported (s : State) : ConditionReported .clockFallback
    (s.setOut { s.out with source := .internal, goodRun := 0, missing := 0, quietPeriods := 0, edgeSeen := false })
    s.fallBack := conditionPresent_reported _ _

theorem fallBack_setMissing (s : State) (n : Nat) :
    (s.setOut { s.out with missing := n }).fallBack = s.fallBack := rfl

/-- A missed edge under EXTERNAL gives a tick; the fourth in a row falls back after it. -/
theorem missEdge_external {s : State} (ext : s.out.source = .external) : s.missEdge =
    if 3 ≤ s.out.missing then s.giveTick.fallBack
    else s.giveTick.setOut { s.giveTick.out with missing := s.out.missing + 1 } := by
  obtain ⟨_, missing, _⟩ := OutputUnit.monitor_eq_iff.mp (giveTick_monitor s)
  unfold State.missEdge
  rw [if_pos ext]
  simp only [State.setOut_out, missing, Nat.reduceLeDiff, fallBack_setMissing]

theorem missEdge_internal {s : State} (int : s.out.source = .internal) : s.missEdge = s := by
  rw [State.missEdge, int]
  rfl

theorem oscillatorTick_external {s : State} (ext : s.out.source = .external) : s.oscillatorTick = s := by
  rw [State.oscillatorTick, ext]
  rfl

/-! ### Source INTERNAL (R167) -/

/-- A WCLK edge has been noted under source INTERNAL: the count of periods without one starts again (R167; assumption
log 17). -/
abbrev edgeHeard (s : State) : State := s.setOut { s.out with edgeSeen := true, quietPeriods := 0 }

theorem clockEdge_internal {s : State} (int : s.out.source = .internal) (p : Rat) :
    s.clockEdge (some p) = s.internalEdge (judgePeriod p) := by
  simp only [State.clockEdge, int]

theorem clockEdge_first_internal {s : State} (int : s.out.source = .internal) :
    s.clockEdge none = edgeHeard s := by
  simp only [State.clockEdge, edgeHeard, int]

theorem internalEdge_bad {p : Period} (bad : p ≠ .good) (s : State) :
    s.internalEdge p = (edgeHeard s).setOut { (edgeHeard s).out with goodRun := 0 } := by
  cases p with
  | good => exact absurd rfl bad
  | short => rfl
  | long => rfl

/-- A good period under INTERNAL counts, and the 256th gives a tick and then the source returns. -/
theorem internalEdge_good (s : State) : s.internalEdge .good =
    if s.out.goodRun + 1 < 256 then (edgeHeard s).setOut { (edgeHeard s).out with goodRun := s.out.goodRun + 1 }
    else (edgeHeard s).giveTick.returnExternal := rfl

theorem returnExternal_eq (s : State) : s.returnExternal =
    (s.setOut { s.out with source := .external, goodRun := 256, missing := 0 }).withoutCondition .clockFallback :=
  State.conditionAbsent_eq_withoutCondition _ _

/-- The oscillator's tick under INTERNAL judges the period that ends by what the monitor held before the tick. -/
theorem oscillatorTick_internal {s : State} (int : s.out.source = .internal) :
    let quiet := if s.out.edgeSeen then 0 else min 4 (s.out.quietPeriods + 1)
    s.oscillatorTick = s.giveTick.setOut { s.giveTick.out with
      edgeSeen := false, quietPeriods := quiet, goodRun := if quiet = 4 then 0 else s.out.goodRun } := by
  obtain ⟨_, _, goodRun, quietPeriods, edgeSeen⟩ := OutputUnit.monitor_eq_iff.mp (giveTick_monitor s)
  unfold State.oscillatorTick
  rw [if_pos int]
  simp only [goodRun, quietPeriods, edgeSeen]

/-- Settles O50: each row comes to the clock monitor's case for it, and every tick it gives is giveTick. -/
theorem clockGivesTicks : Obligations.ClockGivesTicks := by
  intro period s run _
  dsimp only
  refine ⟨fun ext => ?_, fun int => ?_⟩
  · simp only [exec_wclkEdge run, exec_missingEdge run, exec_internalOscillatorTick run, clockEdge_external ext,
      clockEdge_first_external ext, missEdge_external ext, oscillatorTick_external ext, true_and]
    refine ⟨fun good => ?_, fun short => ?_, fun long => ?_, fun few => ?_, fun many => ?_⟩
    · rw [judgePeriod_good_iff.mpr good]
      exact ⟨s.giveTick, giveTick_ticks run, rfl⟩
    · rw [judgePeriod_short short]
      exact ⟨_, rfl, fallBack_reported s⟩
    · rw [judgePeriod_long long]
      rfl
    · rw [if_neg (not_le.mpr few)]
      exact ⟨s.giveTick, giveTick_ticks run, rfl⟩
    · rw [if_pos many]
      exact ⟨s.giveTick, _, giveTick_ticks run, rfl, fallBack_reported _⟩
  · simp only [exec_wclkEdge run, exec_missingEdge run, exec_internalOscillatorTick run, clockEdge_internal int,
      clockEdge_first_internal int, missEdge_internal int, oscillatorTick_internal int, true_and]
    refine ⟨fun bad => ?_, fun good few => ?_, fun good enough => ?_, s.giveTick, giveTick_ticks run, rfl⟩
    · rw [internalEdge_bad (mt judgePeriod_good_iff.mp bad)]
    · rw [judgePeriod_good_iff.mpr good, internalEdge_good, if_pos few]
    · rw [judgePeriod_good_iff.mpr good, internalEdge_good, if_neg (not_lt.mpr enough), returnExternal_eq]
      exact ⟨(edgeHeard s).giveTick, giveTick_ticks (s := edgeHeard s) run, rfl⟩

end Sys2Proof.Machine
end

section
/-!
PROOFS. What every step keeps of the keys, the Contact Schedule, the busses and the percussion envelope: an
invariant of theirs has only their own operations to answer for (R42, R51, R55, R67, R89, R139, R141).
-/

namespace Sys2Proof.Machine.Busses

open Sys2Proof.Machine.Requests Sys2Proof.Machine.Keys

/-- The parts that the keys, the schedule, the busses and the percussion envelope are told apart from. -/
abbrev otherBlocks : List Block :=
  [.lnk, .replies, .place, .req, .tab, .hold, .eng, .reg, .rot, .out, .mute, .flt, .cnt]

/-- A law of the keys, the schedule, the busses and the percussion envelope that every operation on them keeps. The
beginning of a tick is left to `OperationStable.step`: what it keeps may rest on the processes of the tick that it
ends. -/
structure OperationStable (P : State → Prop) : Prop where
  others : ∀ {s t : State}, Frame otherBlocks s t → P s → P t
  pending : ∀ {s : State} (q : List Instr), P s → P (s.setPending q)
  voice : ∀ {s : State} (p : Percussion), p.envelope = s.prc.envelope → p.enable = s.prc.enable →
    p.level = s.prc.level → p.halving = s.prc.halving → P s → P (s.setPrc p)
  release : ∀ {s : State} {ms : List Manual}, ms.Nodup → P s → P (s.release ms)
  keyEvent : ∀ {s : State} (source : BitVec 2) (raw : BitVec 7) (down : Bool) (travel : BitVec 6), P s →
    P (s.keyEvent source raw down travel)
  applyHead : ∀ {s : State}, P s → P s.applyHead
  expireClick : ∀ {s : State}, P s → P s.expireClick
  moveEnable : ∀ {s : State} (on : Bool), P s → P (s.setPrc (s.prc.moveEnable on (s.manualUp .upper)))
  halvingTick : ∀ {s : State}, P s → P s.halvingTick
  softResetBlocks : ∀ {s : State}, P s → P s.softResetBlocks
  fullReset : ∀ {s : State} (cause : ResetCause), P s → P (s.fullReset cause)

namespace OperationStable

variable {P : State → Prop} {s t : State}

/-! ### What leaves the law's subjects alone -/

theorem ofFrame (h : OperationStable P) {l : List Block} (f : Frame l s t)
    (apart : ∀ b ∈ l, b ∈ otherBlocks) (p : P s) : P t := h.others (f.mono apart) p

theorem setLnk (h : OperationStable P) (b : LinkUnit) (p : P s) : P (s.setLnk b) :=
  h.others (Frame.setLnk s b (.inl (by decide)) (.inl (by decide)) (.inl (by decide))) p

theorem setReq (h : OperationStable P) (b : RequestUnit) (p : P s) : P (s.setReq b) :=
  h.others (Frame.setReq (by decide) s b) p

theorem setFlt (h : OperationStable P) (b : FaultUnit) (p : P s) : P (s.setFlt b) :=
  h.others (Frame.setFlt (by decide) s b) p

theorem setOut (h : OperationStable P) (b : OutputUnit) (p : P s) : P (s.setOut b) :=
  h.others (Frame.setOut s b (.inl (by decide)) (.inl (by decide))) p

theorem count (h : OperationStable P) (f : Counters → Counters) (p : P s) : P (s.count f) :=
  h.ofFrame (s.count_frame f) (by decide) p

theorem refresh (h : OperationStable P) (p : P s) : P s.refresh := h.ofFrame s.refresh_frame (by decide) p

theorem setRecord (h : OperationStable P) (k : FaultKind) (r : FaultRecord) (p : P s) : P (s.setRecord k r) :=
  h.ofFrame (s.setRecord_frame k r) (by decide) p

theorem storeEntry (h : OperationStable P) (u : TableId) (i : Nat) (ws : List Word) (p : P s) :
    P (s.storeEntry u i ws) := h.ofFrame (s.storeEntry_frame u i ws) (by decide) p

theorem either {c : Prop} [Decidable c] (p : P s) (q : P t) : P (if c then s else t) := by
  split
  · exact p
  · exact q

theorem foldl {α : Type} {f : State → α → State} (keep : ∀ {s : State} (a : α), P s → P (f s a))
    (l : List α) (p : P s) : P (l.foldl f s) := List.foldlRecOn l f p fun _ q a _ => keep a q

/-! ### Reports to the Fault Unit (R181, R182, R185) -/

theorem releaseStable (h : OperationStable P) : ReleaseStable P :=
  ⟨fun f p => h.ofFrame f (by decide) p, fun p => h.release allManuals_nodup p⟩

theorem asEvent (h : OperationStable P) {f : State → State} (p : P (f s)) : P (s.asEvent f) :=
  h.releaseStable.asEvent p

theorem occur (h : OperationStable P) (k : FaultKind) (p : P s) : P (s.occur k) := h.releaseStable.occur k p

theorem conditionPresent (h : OperationStable P) (k : FaultKind) (p : P s) : P (s.conditionPresent k) :=
  h.releaseStable.conditionPresent k p

theorem takeForce (h : OperationStable P) (a : Action) (p : P s) : P (s.takeForce a) := by
  unfold State.takeForce
  exact either (h.release allManuals_nodup (h.refresh p)) (h.refresh p)

theorem reconfigureMode (h : OperationStable P) (k : FaultKind) (p : P s) : P (s.reconfigureMode k) := by
  unfold State.reconfigureMode
  dsimp only
  split
  · exact h.setRecord _ _ p
  · exact h.setRecord _ _ p
  · exact h.setRecord _ _ p
  · exact h.setRecord _ _ p
  · split
    · exact h.occur k p
    · exact p

theorem reconfigureAction (h : OperationStable P) (k : FaultKind) (p : P s) : P (s.reconfigureAction k) := by
  unfold State.reconfigureAction
  dsimp only
  split
  · exact h.takeForce _ (h.setRecord _ _ p)
  · exact p

theorem reconfigure (h : OperationStable P) (k : FaultKind) (w : Word) (p : P s) : P (s.reconfigure k w) := by
  have stored : P (s.setFaultEntry k w) := h.ofFrame (s.setFaultEntry_frame k w) (by decide) p
  have mode : P (if s.faultMode k = faultModeOfWord w then s.setFaultEntry k w
      else (s.setFaultEntry k w).reconfigureMode k) := either stored (h.reconfigureMode k stored)
  unfold State.reconfigure
  exact h.refresh (either (h.reconfigureAction k mode) mode)

/-! ### Written and restored entries (R32, R40, R41) -/

theorem writeEntry (h : OperationStable P) (u : TableId) (i : Nat) (ws : List Word) (p : P s) :
    P (s.writeEntry u i ws) := by
  have stored : ∀ {t : State} (u : TableId), P t → P (t.storeEntry u i ws) := fun u q => h.storeEntry u i ws q
  unfold State.writeEntry
  split
  · exact h.reconfigure _ _ p
  · dsimp only
    split
    · exact h.ofFrame (State.silenceWritten_frame _) (by decide) (stored _ p)
    · split
      · exact h.ofFrame (State.enableWritten_frame _ _) (by decide) (stored _ p)
      · exact stored _ p
  · split
    · exact stored _ (h.ofFrame s.retryTicks_frame (by decide) p)
    · exact stored _ p
  · dsimp only
    split
    · exact h.ofFrame (State.retarget_frame _ _) (by decide) (stored _ p)
    · exact stored _ p
  · dsimp only
    split
    · exact h.ofFrame (State.modeWritten_frame _ _ _) (by decide) (stored _ p)
    · exact stored _ p
  · exact stored _ p

theorem writeList (h : OperationStable P) (u : TableId) (es : List (Nat × List Word)) (p : P s) :
    P (s.writeList u es) := foldl (fun e => h.writeEntry u e.1 e.2) es p

theorem writeEntries (h : OperationStable P) (u : TableId) (es : List (Nat × List Word)) (p : P s) :
    P (s.writeEntries u es) := by
  unfold State.writeEntries
  split
  · exact h.asEvent (h.writeList _ es p)
  · exact h.ofFrame (State.checkNotice_frame _) (by decide) (h.writeList _ es p)
  · exact h.writeList _ es p

theorem restoreTick (h : OperationStable P) (p : P s) : P s.restoreTick := by
  unfold State.restoreTick
  split
  · exact p
  · dsimp only
    split
    · exact p
    · split <;> exact h.setReq _ (h.writeEntries _ _ p)

theorem restoreAll (h : OperationStable P) (u : TableId) (p : P s) : P (s.restoreAll u) := by
  unfold State.restoreAll
  dsimp only
  split
  · exact foldl (fun e => h.storeEntry _ e.1 e.2) _ p
  · exact foldl (fun e => h.storeEntry _ e.1 e.2) _ p
  · exact h.writeList _ _ p

/-! ### Resets and the end of INITIALIZING (R26, R41, R191) -/

theorem initTick (h : OperationStable P) (p : P s) : P s.initTick := by
  have started : P (factoryStarted s) := h.ofFrame (factoryStarted_frame s) (by decide) p
  have raised : P (factoryStarted s).raiseAllPresent := by
    refine foldl (fun k q => ?_) _ started
    unfold State.raisePresent
    split
    · exact h.asEvent (h.occur k q)
    · exact q
  unfold State.initTick
  dsimp only
  split
  · split
    · exact h.ofFrame (State.countChange_frame _) (by decide) raised
    · exact h.setReq _ p
  · exact p

theorem abandon (h : OperationStable P) (p : P s) : P s.abandon := by
  rw [abandon_eq]
  refine h.setReq _ ?_
  unfold restoredTable
  split
  · exact h.restoreAll _ p
  · exact p

theorem reraise (h : OperationStable P) (k : FaultKind) (present : Bool) (p : P s) : P (s.reraise k present) := by
  unfold State.reraise
  exact either (h.occur k (h.setRecord _ _ p)) p

theorem softResetFaults (h : OperationStable P) (p : P s) : P s.softResetFaults :=
  h.setFlt _ (h.reraise _ _ (h.reraise _ _ (h.refresh (h.setFlt _ p))))

theorem softReset (h : OperationStable P) (p : P s) : P s.softReset :=
  h.count (fun _ => Counters.zero)
    (h.softResetFaults (h.softResetBlocks (h.setReq _ (h.abandon (h.setReq _ p)))))

/-! ### Control moves (R118, R119) -/

theorem controlAccepted (h : OperationStable P) (id value : Nat) (p : P s) : P (s.controlAccepted id value) := by
  have switch : ∀ which on, P (s.setPrc (s.prc.moveSwitch which on)) := fun which _ =>
    h.voice _ (by cases which <;> rfl) (by cases which <;> rfl) (by cases which <;> rfl) (by cases which <;> rfl) p
  have scanner : ∀ which v, P (s.setPrc (s.prc.moveScanner which v)) := fun which _ =>
    h.voice _ (by cases which <;> rfl) (by cases which <;> rfl) (by cases which <;> rfl) (by cases which <;> rfl) p
  unfold State.controlAccepted
  split
  · split
    · exact h.ofFrame (s.moveDrawbar_frame _ _ _) (by decide) p
    · exact p
  · split
    · exact h.others (Frame.setReg (by decide) s _) p
    · exact h.moveEnable _ p
    · exact switch _ _
    · exact switch _ _
    · exact switch _ _
    · exact scanner _ _
    · exact scanner _ _
    · exact scanner _ _
    · exact h.ofFrame (s.moveSelector_frame _) (by decide) p
    · exact h.ofFrame (s.moveBrake_frame _) (by decide) p
    · exact h.release (manualsOfMask_nodup value) p
    · exact p

theorem controlMove (h : OperationStable P) (id value : Nat) (p : P s) : P (s.controlMove id value) := by
  unfold State.controlMove
  exact either p (either (h.controlAccepted id value p) (h.count _ p))

/-! ### Requests (R28, R31 to R41) -/

theorem answer (h : OperationStable P) (head : Head) (echo : Nat) {act : State → Answer}
    (keep : ∀ {t : State}, P t → P (act t).state) (p : P s) : P (s.answer head echo act) := by
  unfold State.answer
  split
  · exact keep p
  · split
    · exact h.count _ p
    · exact h.setLnk _ (keep (h.setLnk _ p))

theorem whenReady {act : State → Answer} (keep : ∀ {t : State}, P t → P (act t).state) (p : P s) :
    P (Machine.whenReady act s).state := by
  unfold Machine.whenReady
  split
  · exact p
  · exact keep p

theorem takeWrite (h : OperationStable P) (head : Head) (payload : List Word) (p : P s) :
    P (s.takeWrite head payload) := by
  refine h.answer head _ (fun q => whenReady (fun q => ?_) q) p
  unfold actWrite
  split
  · exact q
  · split
    · exact q
    · split
      · exact h.writeEntries _ _ q
      · exact q

theorem changeOpState (h : OperationStable P) (o : OpState) (p : P s) : P (s.changeOpState o) :=
  h.asEvent (f := fun s => (s.setReq { s.req with opState := o }).refresh) (h.refresh (h.setReq _ p))

theorem commandAction (h : OperationStable P) {code : Nat} {act : Nat → List Word → State → Answer}
    (e : Machine.commandAction code = some act) (arg : Nat) (rest : List Word) (p : P s) :
    P (act arg rest s).state := by
  unfold Machine.commandAction at e
  split at e <;> cases e
  · unfold actPlay
    split
    · exact p
    · split
      · exact p
      · split
        · exact p
        · rw [answered_state]
          exact h.changeOpState _ p
  · unfold actStandby
    split
    · exact p
    · split
      · rw [answered_state]
        exact h.changeOpState _ (h.release allManuals_nodup p)
      · exact p
  · unfold actAllKeysUp
    split
    · rw [answered_state]
      exact h.release (manualsOfMask_nodup arg) p
    · exact p
  · unfold actClearFaults
    split
    · exact p
    · rw [answered_state]
      exact h.ofFrame s.clearFaults_frame (by decide) p
  · unfold actSelectPreset
    dsimp only
    split
    · exact p
    · split
      · rw [answered_state]
        exact h.ofFrame (s.selectNow_frame _ _) (by decide) p
      · rw [answered_state]
        exact h.ofFrame (s.selectGlide_frame _ _) (by decide) p
      · rw [answered_state]
        exact h.ofFrame (s.selectNextPlay_frame _ _) (by decide) p
      · exact p
  · unfold actFlush
    split
    · exact p
    · split
      · exact p
      · exact h.ofFrame (flushBegun_frame s) (by decide) p
  · unfold actRestore
    split
    · exact p
    · split
      · exact p
      · split
        · exact p
        · split
          · exact p
          · exact h.setReq _ p
  · unfold actClearCounters
    split
    · exact p
    · exact h.count (fun _ => Counters.zero) p
  · unfold actSoftReset
    split <;> exact p

theorem takeCommand (h : OperationStable P) (head : Head) (payload : List Word) (p : P s) :
    P (s.takeCommand head payload) := by
  have answered : P (s.answer head (requestHigh payload) (Machine.whenReady (actCommand payload))) := by
    refine h.answer head _ (fun q => whenReady (fun q => ?_) q) p
    unfold actCommand
    split
    · exact q
    · split
      · exact q
      · next act e =>
        split
        · exact q
        · exact h.commandAction e _ _ q
  unfold State.takeCommand
  exact either (h.softReset answered) answered

/-! ### Link words (R1 to R16) -/

theorem dispatch (h : OperationStable P) (header : Word) (payload : List Word) (p : P s) :
    P (s.dispatch header payload) := by
  unfold State.dispatch
  dsimp only
  split
  · exact foldl (f := State.keyWord) (fun _ => h.keyEvent _ _ _ _) payload p
  · exact foldl (f := State.controlWord) (fun _ => h.controlMove _ _) payload p
  · exact h.takeWrite _ _ p
  · exact h.ofFrame (s.takeRead_frame _ _) (by decide) p
  · exact h.takeCommand _ _ p
  · exact h.ofFrame (s.takeUnknown_frame _ _) (by decide) p

theorem frameTaken (h : OperationStable P) (p : P s) : P s.frameTaken := by
  unfold State.frameTaken
  refine h.ofFrame (State.conditionAbsent_frame _ _) (by decide) ?_
  split
  · exact p
  · exact h.setFlt _ p

theorem checkDrop (h : OperationStable P) (a : Assembly) (p : P s) : P (s.checkDrop a) := by
  have closed : P (s.closeAssembly a false) := h.setLnk _ p
  unfold State.checkDrop
  exact either closed (h.releaseStable.raiseEvent _ (h.count _ closed))

theorem shortFrame (h : OperationStable P) (a : Assembly) (p : P s) : P (s.shortFrame a) := by
  have closed : P (s.closeAssembly a false) := h.setLnk _ p
  unfold State.shortFrame
  exact either closed (h.count _ closed)

theorem goodFrame (h : OperationStable P) (a : Assembly) (p : P s) : P (s.goodFrame a) := by
  have counted : P ((s.closeAssembly a true).count fun c => { c with goodFrames := c.goodFrames + 1 }) :=
    h.count _ (h.setLnk _ p)
  unfold State.goodFrame
  exact either (h.dispatch _ _ (h.frameTaken counted)) counted

theorem addWord (h : OperationStable P) (a : Assembly) (w : Word) (bad : Bool) (p : P s) :
    P (s.addWord a w bad) := by
  have received : P (if a.forwarding = .admitted then s.setLnk { s.lnk with forward := receiveWord s.lnk.forward w }
      else s) := either (h.setLnk _ p) p
  unfold State.addWord State.endFrame
  exact either (either (h.checkDrop _ received) (h.goodFrame _ received)) (h.setLnk _ received)

theorem openFrame (h : OperationStable P) (w : Word) (p : P s) : P (s.openFrame w) := by
  unfold State.openFrame
  dsimp only
  exact h.setLnk _ (either (h.count _ p) p)

theorem markerWord (h : OperationStable P) (w : Word) (p : P s) : P (s.markerWord w) := by
  have noted : P (s.setLnk { s.lnk with sinceLock := false }) := h.setLnk _ p
  unfold State.markerWord
  exact either noted (h.openFrame w noted)

theorem goodLinkedWord (h : OperationStable P) (w : LinkWord) (p : P s) : P (s.goodLinkedWord w) := by
  have heard : P (s.setLnk { s.lnk with loss := 0, quiet := Timer.start }) := h.setLnk _ p
  unfold State.goodLinkedWord
  dsimp only
  split
  · split
    · exact h.markerWord _ heard
    · unfold State.strayWord
      split
      · exact heard
      · exact h.count _ heard
  · split
    · refine h.markerWord _ ?_
      split
      · exact h.checkDrop _ heard
      · exact h.shortFrame _ heard
    · exact h.addWord _ _ _ heard

theorem badLinkedWord (h : OperationStable P) (w : LinkWord) (p : P s) : P (s.badLinkedWord w) := by
  have counted : P (s.setLnk { s.lnk with loss := s.lnk.loss + 1 }) := h.setLnk _ p
  have mayLose : ∀ {t : State}, P t → P (if 64 ≤ t.lnk.loss then t.lose else t) :=
    fun {t} q => either (h.ofFrame t.lose_frame (by decide) q) q
  unfold State.badLinkedWord
  refine mayLose ?_
  split
  · exact counted
  · exact h.addWord _ _ _ counted

theorem linkWordIn (h : OperationStable P) (w : LinkWord) (p : P s) : P (s.linkWordIn w) := by
  unfold State.linkWordIn
  split
  · split
    · exact h.goodLinkedWord w p
    · exact h.badLinkedWord w p
  · unfold State.searchingWord
    dsimp only
    split
    · split
      · exact h.ofFrame (State.lock_frame _) (by decide) (h.setLnk _ p)
      · exact h.setLnk _ p
    · exact h.setLnk _ p

/-! ### The processes of a tick (R172) -/

theorem windowTick (h : OperationStable P) (p : P s) : P s.windowTick := by
  unfold State.windowTick
  dsimp only
  split
  · split
    · exact h.setLnk _ p
    · split
      · exact h.setLnk _ p
      · exact h.conditionPresent _ (h.setLnk _ p)
  · exact p

theorem applyDue (h : OperationStable P) (fuel : Nat) : ∀ {s : State}, P s → P (State.applyDue fuel s) := by
  induction fuel with
  | zero => exact fun p => p
  | succ n ih =>
    intro s p
    unfold State.applyDue
    split
    · exact p
    · split
      · exact ih (h.applyHead p)
      · exact p

theorem silenceTick (h : OperationStable P) (p : P s) : P s.silenceTick := by
  unfold State.silenceTick
  dsimp only
  split
  · split
    · split
      · exact h.conditionPresent _ (h.setFlt _ p)
      · exact h.setFlt _ p
    · exact h.setFlt _ p
  · exact p

theorem tickLinkAndTables (h : OperationStable P) (p : P s) : P s.tickLinkAndTables :=
  h.restoreTick (h.windowTick (h.ofFrame (State.quietTick_frame _) (by decide) (h.initTick p)))

theorem tickContactsAndEngines (h : OperationStable P) (p : P s) : P s.tickContactsAndEngines := by
  have engines : ∀ t : State, Frame [.eng, .flt, .req] t t.loadTick.writeBackTick.settleTicks := fun t =>
    ((t.loadTick_frame.mono (by decide)).trans (State.writeBackTick_frame _)).trans
      ((State.settleTicks_frame _).mono (by decide))
  exact h.ofFrame (engines _) (by decide) (h.applyDue _ p)

theorem tickSound (h : OperationStable P) (p : P s) : P s.tickSound := by
  have clicks : P s.expireClicks :=
    foldl (P := P) (f := fun s _ => s.expireClick) (fun _ => h.expireClick) _ p
  have halved : P s.expireClicks.glideTicks.halvingTick :=
    h.halvingTick (h.ofFrame (State.glideTicks_frame _) (by decide) clicks)
  exact h.ofFrame ((State.rotorTick_frame .horn _).trans (State.rotorTick_frame .drum _)) (by decide) halved

theorem tickFaults (h : OperationStable P) (p : P s) : P s.tickFaults := by
  have timers : Frame [.replies, .hold, .mute, .flt, .out] s.silenceTick s.tickFaults :=
    (((State.retryTicks_frame _).mono (by decide)).trans ((State.noticeTick_frame _).mono (by decide))).trans
      (((State.waitingNotice_frame _).mono (by decide)).trans ((State.cascadeMissing_frame _).mono (by decide)))
  exact h.ofFrame timers (by decide) (h.silenceTick p)

theorem tickProcesses (h : OperationStable P) (p : P s) : P s.tickProcesses :=
  h.tickFaults (h.tickSound (h.tickContactsAndEngines (h.tickLinkAndTables p)))

theorem stepLimiter (h : OperationStable P) (x : Sample) (o : OutputId) (p : P s) : P (s.stepLimiter x o) := by
  unfold State.stepLimiter
  exact either (h.asEvent (h.refresh (h.occur _ (h.count _ (h.setOut _ p))))) (h.setOut _ p)

theorem formAudio (h : OperationStable P) (p : P s) : P s.formAudio.1 :=
  h.others (Frame.setRot (by decide) _ _)
    (h.voice _ rfl rfl rfl rfl (h.others (Frame.setEng (by decide) s _) p))

theorem outputStage (h : OperationStable P) (p : P s) : P s.outputStage := by
  unfold State.outputStage
  exact either p (h.setOut _ (foldl (fun o => h.stepLimiter _ o) _ (h.setOut _ (h.formAudio p))))

theorem finishTick (h : OperationStable P) (p : P s) : P s.finishTick := h.outputStage (h.tickProcesses p)

/-! ### The clock monitor (R167) -/

theorem clockEdge (h : OperationStable P) (tick : ∀ {s : State}, P s → P s.giveTick) (period : Option Rat)
    (p : P s) : P (s.clockEdge period) := by
  unfold State.clockEdge
  split
  · unfold State.externalEdge
    split
    · exact h.setOut _ (tick p)
    · exact h.conditionPresent _ (h.setOut _ p)
    · exact p
  · unfold State.internalEdge
    dsimp only
    split
    · split
      · exact h.setOut _ (h.setOut _ p)
      · exact h.ofFrame (State.returnExternal_frame _) (by decide) (tick (h.setOut _ p))
    · exact h.setOut _ (h.setOut _ p)
  · exact p
  · exact h.setOut _ p

theorem missEdge (h : OperationStable P) (tick : ∀ {s : State}, P s → P s.giveTick) (p : P s) :
    P s.missEdge := by
  unfold State.missEdge
  dsimp only
  split
  · split
    · exact h.conditionPresent _ (h.setOut _ (h.setOut _ (tick p)))
    · exact h.setOut _ (tick p)
  · exact p

theorem oscillatorTick (h : OperationStable P) (tick : ∀ {s : State}, P s → P s.giveTick) (p : P s) :
    P s.oscillatorTick := by
  unfold State.oscillatorTick
  exact either (h.setOut _ (tick p)) p

/-! ### Every command, and the step -/

theorem running {f : State → State} (e : whenRunning f s = .next t) (p : P s) (keep : P s → P (f s)) : P t := by
  cases e
  split
  · exact p
  · exact keep p

/-- Every command keeps the law, once the tick that it may give does. -/
theorem exec (h : OperationStable P) (tick : ∀ {s : State}, P s → P s.giveTick) {c : Instr} (p : P s)
    (e : Machine.exec c s = .next t) : P t := by
  cases c with
  | powerOn | resetPin => cases e; exact h.fullReset _ p
  | resetRelease strap =>
    cases e
    split
    · exact h.ofFrame (s.releaseReset_frame strap) (by decide) p
    · exact p
  | initializationDone => exact running e p h.initTick
  | linkWord => exact running e p (h.linkWordIn _)
  | quietTimerExpiry => exact running e p (h.ofFrame s.quietTick_frame (by decide))
  | searchWindowEnd => exact running e p h.windowTick
  | transmitterFree => exact running (f := fun s => s.setLnk s.lnk.transmitterFree) e p (h.setLnk _)
  | unknownKind => exact running e p (h.ofFrame (s.takeUnknown_frame _ _) (by decide))
  | write | writeKeyMap | writeWheelPitch | writeFaultConfiguration | writeStationNumber | writeSilenceWindow
  | writeNoticeSettings | writeRotorSettings | writeOutputSettings => exact running e p (h.takeWrite _ _)
  | read => exact running e p (h.ofFrame (s.takeRead_frame _ _) (by decide))
  | play | standby | allKeysUp | clearFaults | selectPresetNow | selectPresetGlide | selectPresetNextPlay
  | flushEngines | restoreFactory | clearCounters | softReset => exact running e p (h.takeCommand _ _)
  | restoreStep => exact running e p h.restoreTick
  | keyDown | keyUp => exact running e p (h.keyEvent _ _ _ _)
  | scheduleEntryDue => exact running e p h.applyHead
  | clickPulseExpiry => exact running e p h.expireClick
  | loadComplete => exact running e p (h.ofFrame s.loadTick_frame (by decide))
  | writeBackComplete => exact running e p (h.ofFrame s.writeBackTick_frame (by decide))
  | settleDone => exact running e p (h.ofFrame (s.settleTick_frame _) (by decide))
  | controlError | drawbarMove | expressionMove | percussionEnable | percussionSwitch | scannerMove | rotorSelect
  | rotorBrake | controlRelease => exact running e p (h.controlMove _ _)
  | glideStep => exact running e p (h.ofFrame (s.glideTick_frame _) (by decide))
  | halving => exact running e p h.halvingTick
  | boundaryStep =>
    exact running (f := fun s => (s.rotorTick .horn).rotorTick .drum) e p fun q =>
      h.ofFrame ((s.rotorTick_frame _).trans (State.rotorTick_frame _ _)) (by decide) q
  | parkingCheck => exact running e p (h.ofFrame (s.rotorTick_frame _) (by decide))
  | wclkEdge => exact running e p (h.clockEdge tick _)
  | missingEdge => exact running e p (h.missEdge tick)
  | cascadeSample frame => exact running (f := fun s => s.setOut (s.out.cascade frame)) e p (h.setOut _)
  | episodeStart => exact running (f := State.finishTick) e p fun q => h.finishTick q
  | episodeEnd => exact running (f := fun s => s.tickProcesses.outputStage) e p fun q => h.finishTick q
  | retryExpiry => exact running e p (h.ofFrame (s.retryTick_frame _) (by decide))
  | consoleSilenceExpiry => exact running e p h.silenceTick
  | noticeTimeExpiry => exact running e p (h.ofFrame s.noticeTick_frame (by decide))
  | noticeWaitingQueued => exact running e p (h.ofFrame s.waitingNotice_frame (by decide))
  | internalOscillatorTick => exact running e p (h.oscillatorTick tick)

/-- Every step keeps the law: a command at the front of the queue, or LINK_OUT sending a word. -/
theorem step (h : OperationStable P) (tick : ∀ {s : State}, P s → P s.giveTick) (p : P s)
    (e : Machine.step s = .next t) : P t := by
  unfold Machine.step at e
  split at e
  · cases e
    unfold State.idle
    split
    · exact p
    · exact h.setLnk _ p
  · exact h.exec tick (h.pending _ p) e

end OperationStable

end Sys2Proof.Machine.Busses
end

section
/-!
PROOFS. The demand of a wheel is the sum of its counts, at every step (05_the_bus_matrix.md R77, R78).
-/

namespace Sys2Proof.Machine.Busses

open Sys2Proof.Machine.Requests Sys2Proof.Machine.Keys

/-! ### One count changes (R77) -/

/-- A sum in which one element of the list, held once, changes. -/
theorem sum_map_changed {α : Type} {a : α} {l : List α} (once : l.Nodup) (mem : a ∈ l) {f g : α → Nat}
    (same : ∀ b, b ≠ a → g b = f b) : (l.map g).sum + f a = (l.map f).sum + g a := by
  induction l with
  | nil => cases mem
  | cons b l ih =>
    obtain ⟨new, rest⟩ := List.nodup_cons.mp once
    simp only [List.map_cons, List.sum_cons]
    by_cases e : b = a
    · subst e
      have tail : l.map g = l.map f := List.map_congr_left fun c m => same c fun h => new (h ▸ m)
      rw [tail]
      omega
    · have step := ih rest ((List.mem_cons.mp mem).resolve_left fun h => e h.symm)
      rw [same b e]
      omega

/-- Setting a count moves its wheel's total by as much as the count. -/
theorem total_setCount_same (b : BusMatrix) (row : BusRow) (w : Wheel) (n d : Nat) :
    (b.setCount row w n d).total w + b.countOf row w = b.total w + n := by
  have changed := sum_map_changed (List.nodup_finRange 28) (List.mem_finRange row)
    (f := fun r => b.countOf r w) (g := fun r => (b.setCount row w n d).countOf r w)
    fun r ne => by rw [countOf_setCount, if_neg fun h => ne h.1]
  rwa [countOf_setCount, if_pos ⟨rfl, rfl⟩] at changed

theorem total_setCount_other (b : BusMatrix) (row : BusRow) {w v : Wheel} (ne : v ≠ w) (n d : Nat) :
    (b.setCount row w n d).total v = b.total v := by
  unfold BusMatrix.total
  refine congrArg List.sum (List.map_congr_left fun r _ => ?_)
  rw [countOf_setCount, if_neg fun h => ne h.2]

/-! ### The law, and what it speaks of -/

/-- The law speaks of the counts and the demand, not of the click pulses. -/
theorem demandIsSum_congr {s t : State} (h : s.DemandIsSum) (counts : t.bus.counts = s.bus.counts)
    (demand : t.bus.demand = s.bus.demand) : t.DemandIsSum := by
  intro w
  rw [demand, h w, BusMatrix.total, BusMatrix.total]
  simp only [BusMatrix.countOf, counts]

theorem demandIsSum_of_frame {l : List Block} {s t : State} (h : s.DemandIsSum) (f : Frame l s t)
    (bus : Block.bus ∉ l) : t.DemandIsSum := by
  have same := f.bus bus
  exact demandIsSum_congr h (by rw [same]) (by rw [same])

/-- A count and its wheel's demand change by the same amount. -/
theorem demandIsSum_setCount {s : State} (h : s.DemandIsSum) (row : BusRow) (w : Wheel) {n d : Nat}
    (moved : d + s.bus.countOf row w = s.bus.demand[w] + n) :
    (s.setBus (s.bus.setCount row w n d)).DemandIsSum := by
  intro v
  rw [State.setBus_bus, demand_setCount]
  split
  · next e =>
    subst e
    have total := total_setCount_same s.bus row v n d
    have was := h v
    omega
  · next ne => rw [total_setCount_other _ _ ne, h v]

/-- While the law holds, no count is above its wheel's demand. -/
theorem countOf_le_demand {s : State} (h : s.DemandIsSum) (row : BusRow) (w : Wheel) :
    s.bus.countOf row w ≤ s.bus.demand[w] := by
  rw [h w]
  exact List.single_le_sum (fun _ _ => Nat.zero_le _) _
    (List.mem_map.mpr ⟨row, List.mem_finRange row, rfl⟩)

/-! ### Contacts that open, and releases (R55, R70) -/

theorem demandIsSum_countDown {s : State} (h : s.DemandIsSum) (row : BusRow) (w : Wheel) :
    (s.countDown row w).DemandIsSum := by
  obtain ⟨zero, counts⟩ := countDown_cases s row w
  by_cases none : s.bus.countOf row w = 0
  · rwa [zero none]
  · have bus := (counts none).1
    have le := countOf_le_demand h row w
    have set := demandIsSum_setCount h row w (n := s.bus.countOf row w - 1) (d := s.bus.demand[w] - 1) (by omega)
    exact demandIsSum_congr set (by rw [bus]; rfl) (by rw [bus]; rfl)

theorem demandIsSum_startClick {s : State} (h : s.DemandIsSum) (m : Manual) (positive : Bool) :
    (s.startClick m positive).DemandIsSum := demandIsSum_congr h rfl rfl

theorem demandIsSum_applyOpen {s : State} (h : s.DemandIsSum) (k : KeyId) (c : ContactId) :
    (s.applyOpen k c).DemandIsSum := by
  have opened : (s.setContact k c .opened).DemandIsSum :=
    demandIsSum_of_frame h (s.setContact_frame k c .opened) (by decide)
  unfold State.applyOpen
  split
  · exact h
  · exact opened
  · exact demandIsSum_startClick (demandIsSum_countDown opened _ _) _ _

theorem demandIsSum_releaseManual {s : State} (h : s.DemandIsSum) (m : Manual) :
    (s.releaseManual m).DemandIsSum := by
  have begun : (withoutEntries m s).DemandIsSum := demandIsSum_of_frame h (withoutEntries_frame m s) (by decide)
  have opened : (openedManual m s).DemandIsSum :=
    OperationStable.foldl (P := State.DemandIsSum)
      (f := fun (s : State) (p : KeyId × ContactId) => s.applyOpen p.1 p.2)
      (fun p q => demandIsSum_applyOpen q p.1 p.2) (manualContacts m) begun
  have up : ((openedManual m s).makeUp m).DemandIsSum :=
    demandIsSum_of_frame opened (State.makeUp_frame m _) (by decide)
  rw [releaseManual_eq]
  split
  · exact demandIsSum_of_frame up (State.manualFullyUp_frame _) (by decide)
  · exact up

theorem demandIsSum_release {s : State} (h : s.DemandIsSum) (ms : List Manual) : (s.release ms).DemandIsSum :=
  OperationStable.foldl (P := State.DemandIsSum) (f := fun s m => s.releaseManual m)
    (fun m q => demandIsSum_releaseManual q m) ms h

theorem demandIsSum_releaseStable : ReleaseStable State.DemandIsSum :=
  ⟨fun f h => demandIsSum_of_frame h f (by decide), fun h => demandIsSum_release h _⟩

/-! ### Contacts that close (R68, R69) -/

theorem demandIsSum_countUp {s : State} (h : s.DemandIsSum) (row : BusRow) (w : Wheel) :
    (s.countUp row w).DemandIsSum := by
  have counted := demandIsSum_setCount h row w (n := s.bus.countOf row w + 1) (d := s.bus.demand[w] + 1) (by omega)
  unfold State.countUp
  dsimp only
  split
  · exact demandIsSum_releaseStable.demandUp w counted
  · exact counted

theorem demandIsSum_applyClose {s : State} (h : s.DemandIsSum) (k : KeyId) (c : ContactId) :
    (s.applyClose k c).DemandIsSum := by
  have closed : ∀ b, (s.closeOn k c b).DemandIsSum := by
    intro b
    have shut : (s.setContact k c (.closed b)).DemandIsSum :=
      demandIsSum_of_frame h (s.setContact_frame k c (.closed b)) (by decide)
    unfold State.closeOn
    dsimp only
    split
    · exact shut
    · exact demandIsSum_startClick (demandIsSum_countUp shut _ _) _ _
  unfold State.applyClose
  dsimp only
  split
  · exact demandIsSum_congr (closed _) rfl rfl
  · exact closed _

theorem demandIsSum_applyTransition {s : State} (h : s.DemandIsSum) (k : KeyId) (c : ContactId) (kind : Transition) :
    (s.applyTransition k c kind).DemandIsSum := by
  cases kind with
  | close => exact demandIsSum_applyClose h k c
  | open_ => exact demandIsSum_applyOpen h k c

/-! ### Key events and the due head (R49 to R51, R65 to R67) -/

theorem demandIsSum_placeTransition (k : KeyId) (kind : Transition) (travel : Nat) {p : State × Bool}
    (h : p.1.DemandIsSum) (c : ContactId) : (placeTransition k kind travel p c).1.DemandIsSum := by
  unfold placeTransition
  split
  · unfold placeOne
    dsimp only
    split
    · exact demandIsSum_applyTransition h k c kind
    · split
      · exact demandIsSum_congr h rfl rfl
      · exact demandIsSum_applyTransition h k c kind
  · exact h

theorem demandIsSum_move {s : State} (h : s.DemandIsSum) (kind : Transition) (k : KeyId) (travel : BitVec 6) :
    (s.move kind k travel).DemandIsSum := by
  have begun : (setMoving kind k travel s).DemandIsSum :=
    demandIsSum_of_frame h (setMoving_frame kind k travel s) (by decide)
  have made : (eventMade kind k travel s).1.DemandIsSum :=
    List.foldlRecOn (motive := fun p : State × Bool => p.1.DemandIsSum) _ _ begun
      fun _ q c _ => demandIsSum_placeTransition k kind _ q c
  have collapsed : (eventCollapsed (eventMade kind k travel s)).DemandIsSum := by
    unfold eventCollapsed
    split
    · exact demandIsSum_releaseStable.raiseEvent _ (demandIsSum_of_frame made (State.count_frame _ _) (by decide))
    · exact made
  rw [move_eq]
  exact demandIsSum_of_frame collapsed (State.settleKey_frame k _) (by decide)

theorem demandIsSum_keyEvent {s : State} (h : s.DemandIsSum) (source : BitVec 2) (raw : BitVec 7) (down : Bool)
    (travel : BitVec 6) : (s.keyEvent source raw down travel).DemandIsSum := by
  have counted : ∀ f, (s.count f).DemandIsSum := fun f => demandIsSum_of_frame h (s.count_frame f) (by decide)
  unfold State.keyEvent
  split
  · split
    · unfold State.strayEvent
      dsimp only
      split
      · exact demandIsSum_releaseStable.raiseEvent _ (counted _)
      · exact counted _
    · split
      · unfold State.keyDownOn
        split
        · exact counted _
        · split
          · exact counted _
          · exact counted _
          · exact demandIsSum_move h .close _ travel
          · split
            · exact demandIsSum_move (demandIsSum_of_frame h (s.phraseStart_frame _) (by decide)) .close _ travel
            · exact demandIsSum_move h .close _ travel
      · unfold State.keyUpOn
        split
        · exact counted _
        · exact counted _
        · exact demandIsSum_move h .open_ _ travel
  · exact counted _

theorem demandIsSum_applyHead {s : State} (h : s.DemandIsSum) : s.applyHead.DemandIsSum := by
  unfold State.applyHead
  split
  · exact h
  · next x rest _ =>
    split
    · have popped : (s.setSeq { s.seq with schedule := rest }).DemandIsSum := demandIsSum_congr h rfl rfl
      exact demandIsSum_of_frame (demandIsSum_applyTransition popped _ _ _) (State.settleKey_frame _ _) (by decide)
    · exact h

theorem demandIsSum_expireClick {s : State} (h : s.DemandIsSum) : s.expireClick.DemandIsSum := by
  unfold State.expireClick
  split
  · exact h
  · split
    · exact demandIsSum_congr h rfl rfl
    · exact h

/-! ### The statement -/

/-- A reset leaves no count and no demand (R92). -/
theorem demandIsSum_reset {s : State} (bus : s.bus = BusMatrix.reset) : s.DemandIsSum :=
  demandIsSum_congr keysReset_reset.demandIsSum (by rw [bus]; rfl) (by rw [bus]; rfl)

theorem demandIsSum_stable : OperationStable State.DemandIsSum where
  others := fun f h => demandIsSum_of_frame h f (by decide)
  pending := fun _ h => demandIsSum_congr h rfl rfl
  voice := fun _ _ _ _ _ h => demandIsSum_congr h rfl rfl
  release := fun _ h => demandIsSum_release h _
  keyEvent := fun source raw down travel h => demandIsSum_keyEvent h source raw down travel
  applyHead := demandIsSum_applyHead
  expireClick := demandIsSum_expireClick
  moveEnable := fun _ h => demandIsSum_congr h rfl rfl
  halvingTick := fun h => demandIsSum_congr h rfl rfl
  softResetBlocks := fun _ => demandIsSum_reset rfl
  fullReset := fun _ _ => demandIsSum_reset rfl

theorem beginTick_bus (s : State) : s.beginTick.bus = s.bus := rfl

/-- A new tick leaves the busses as the last one has left them. -/
theorem demandIsSum_giveTick {s : State} (h : s.DemandIsSum) : s.giveTick.DemandIsSum := by
  have same : s.giveTick.bus = s.finishTick.bus := beginTick_bus s.finishTick
  exact demandIsSum_congr (demandIsSum_stable.finishTick h) (by rw [same]) (by rw [same])

/-- Settles O55: every operation on the busses keeps the law, and a new tick leaves them as they are. -/
theorem stepKeepsDemand : Obligations.StepKeepsDemand :=
  fun _ _ h e => demandIsSum_stable.step demandIsSum_giveTick h e

end Sys2Proof.Machine.Busses
end

section
/-!
PROOFS. Engines that settle, click pulses that expire, and what the engines and the clicks sound
(05_the_bus_matrix.md R87 to R90, 06_wheel_engines.md R95, R107 to R109).
-/

namespace Sys2Proof.Machine.Busses

open Sys2Proof.Machine.Requests

/-! ### The sound of engines and clicks (R87, R89, R90, R108, R109) -/

/-- A click pulse's part as its rule has it: the shape by age, the sign, and the click level of its manual
(R89, R90). -/
theorem clickValue_eq (s : State) (p : ClickPulse) : s.clickValue p
    = (clickShape.getD (s.seq.tickCount - p.start).toNat 0 : Rat) / 256 * (if p.positive then 1 else -1)
      * (Config.manualFullScale / 16) * ((wordAt s.tab.playSettings p.manual.toFin.val).toNat / 15) := by
  rw [State.clickValue, clickLevel_eq_entry]
  cases p.positive <;> simp [neg_div]

/-- The engines render one after another, each of them once. -/
theorem enginesSound (s : State) : s.EnginesSound := by
  have gives := renderFold_gives s (List.finRange 64) (List.nodup_finRange 64)
    ⟨s.eng, Vector.replicate 96 0, 0⟩ fun _ _ => rfl
  rw [← State.renderEngines] at gives
  obtain ⟨leak, tone, quiet, signal⟩ := gives
  constructor
  · exact fun e w active wheel unique => signal e (List.mem_finRange e) w active wheel unique
  · intro w none
    exact (quiet w fun e _ both => none e both.1 both.2).trans (noSignal w)
  · exact fun e w wheel => tone e (List.mem_finRange e) w wheel
  · rw [leakageBed_eq, leak, zero_add]
  · intro m
    rw [clickSum_eq_sum]
    refine congrArg List.sum (List.map_congr_left fun p mem => ?_)
    have manual : p.manual = m := eq_of_beq (List.mem_filter.mp mem).2
    rw [clickValue_eq, manual]
    rfl

/-! ### A settle tick (R107) -/

/-- What an engine becomes at its settle tick, while it is IDLE. -/
def settled (r : Engine) : Engine :=
  if r.settle = 255 then { r with settle := 256, ticked := true, dirty := false, tone := ToneState.rest }
  else { r with settle := min 256 (r.settle + 1), ticked := true }

theorem settleTick_waits {c : EngineCache} {e : EngineId}
    (h : (c.engines[e]).state ≠ .idle ∨ (c.engines[e]).ticked = true) : c.settleTick e = c := by
  unfold EngineCache.settleTick
  rw [if_neg]
  rintro ⟨idle, due⟩
  rcases h with state | ticked
  · exact state idle
  · rw [due] at ticked
    cases ticked

theorem storeTone_store (c : EngineCache) (v w : Wheel) (t : ToneState) : (c.storeTone v t).store[w]
    = if w = v then { c.store[w] with tone := t } else c.store[w] := by
  unfold EngineCache.storeTone
  by_cases e : w = v
  · subst e
    simp
  · have ne : (v : Nat) ≠ w := fun h => e (Fin.ext h.symm)
    simp [e, Vector.getElem_set_ne, ne]

/-- A settle tick of an IDLE engine: its own record settles, and the wheel record of a dirty engine that is then
at rest takes the rest value. -/
theorem settleTick_idle {c : EngineCache} {e : EngineId} (idle : (c.engines[e]).state = .idle)
    (due : (c.engines[e]).ticked = false) :
    c.settleTick e = { c with
      engines := c.engines.set e (settled c.engines[e])
      store := (c.settleTick e).store } ∧
    ∀ w : Wheel, (c.settleTick e).store[w] =
      if (c.engines[e]).settle = 255 ∧ (c.engines[e]).dirty = true ∧ (c.engines[e]).wheel = some w then
        { c.store[w] with tone := ToneState.rest }
      else c.store[w] := by
  have both := And.intro idle due
  unfold EngineCache.settleTick settled
  dsimp only
  rw [if_pos both]
  by_cases last : (c.engines[e]).settle = 255
  · rw [if_pos last, if_pos last]
    cases wheel : (c.engines[e]).wheel with
    | none => exact ⟨rfl, fun w => by rw [if_neg (fun h => nomatch h.2.2)]; rfl⟩
    | some v =>
      dsimp only
      cases dirty : (c.engines[e]).dirty with
      | false =>
        refine ⟨rfl, fun w => ?_⟩
        rw [if_neg Bool.false_ne_true, if_neg fun h => Bool.false_ne_true h.2.1]
        rfl
      | true =>
        refine ⟨rfl, fun w => ?_⟩
        rw [if_pos rfl, storeTone_store]
        by_cases same : w = v
        · rw [if_pos same, if_pos ⟨last, rfl, congrArg some same.symm⟩]
          rfl
        · rw [if_neg same, if_neg fun h => same (Option.some.inj h.2.2).symm]
          rfl
  · rw [if_neg last, if_neg last]
    exact ⟨rfl, fun w => by rw [if_neg fun h => last h.1]; rfl⟩

/-! ### The statement -/

/-- Settles O41: the sound by the laws of the audio path and of the free values, the two rows by what they come to. -/
theorem enginesSettleAndClicksExpire : Obligations.EnginesSettleAndClicksExpire := by
  refine ⟨enginesSound, Config.wheelVoices.shapesSound, Config.undrivenPickup.settles, fun s run => ?_⟩
  have expires : exec .clickPulseExpiry s = .next s.expireClick := whenRunning_running run
  refine ⟨fun e => ?_, ?_, ?_⟩
  · have row : exec (.settleDone e) s = .next (s.settleTick e) := whenRunning_running run
    dsimp only
    refine ⟨fun waits => ?_, fun idle due => ?_⟩
    · rw [row, State.settleTick, settleTick_waits waits]
      rfl
    · obtain ⟨cache, store⟩ := settleTick_idle idle due
      have engines : (s.settleTick e).eng.engines = s.eng.engines.set e (settled s.eng.engines[e]) := by
        rw [State.settleTick, State.setEng_eng, cache]
      have own : (s.settleTick e).eng.engines[e] = settled s.eng.engines[e] := by
        rw [engines]
        simp
      refine ⟨_, row, fun e' ne => ?_, ?_, fun early => ?_, fun last => ?_, fun done => ?_,
        fun w last wheel dirty => ?_, fun w other => ?_, s.settleTick_frame e⟩
      · have apart : (e : Nat) ≠ e' := fun h => ne (Fin.ext h.symm)
        rw [engines]
        simp [Vector.getElem_set_ne, apart]
      · rw [State.settleTick, State.setEng_eng]
        rw [cache]
      · rw [own, settled, if_neg (by omega), Nat.min_eq_right (by omega)]
      · rw [own, settled, if_pos last]
      · rw [own, settled, if_neg (by omega), Nat.min_eq_left (by omega), ← done]
      · exact (store w).trans (if_pos ⟨last, dirty, wheel⟩)
      · refine (store w).trans (if_neg fun h => ?_)
        obtain ⟨last, dirty, wheel⟩ := h
        rcases other with early | clean | elsewhere
        · exact early last
        · rw [clean] at dirty
          cases dirty
        · exact elsewhere wheel
  · intro none
    rw [expires, State.expireClick, none]
  · intro p rest clicks
    rw [expires, State.expireClick, clicks]

end Sys2Proof.Machine.Busses
end

section
/-!
PROOFS. The controls of the drawbars, the expression, the percussion switches and the scanner, and the busses,
manuals and dry signal that they shape (07_registration.md 7.1, 7.6, 08_percussion_and_scanner.md 8.1, 8.5).
-/

namespace Sys2Proof.Machine.Busses

open Sys2Proof.Machine.Requests

/-! ### The sound of busses and manuals (R84, R85, R121, R130 to R132, R144, R145, R147) -/

/-- The scanned output of a manual: its line has just taken the manual's sum (R146, R147). -/
theorem scanned_pushSample (s : State) (line : Vector Sample 64) (x : Sample) (on : Bool) :
    s.scanned (pushSample line x) on = s.scannedOutput (x :: line.toList.dropLast) on := by
  rw [scanned_eq_scannedOutput, pushSample_toList]

theorem manualsSound (s : State) : s.ManualsSound where
  bus := busSignal_eq_sum s _
  sum := fun m => by rw [State.unscannedSum, drawbarMix_eq_sum]
  upper := scanned_pushSample s _ _ _
  lower := scanned_pushSample s _ _ _
  pedal := rfl
  dry := by
    rw [← expressionGain_eq, ← scaled_eq_mul]
    rfl
  sources := fun _ => ⟨rfl, rfl, rfl, rfl⟩

/-! ### Control moves within their range (R118, R119) -/

theorem controlMove_accepted {id value : Nat} {s : State} (ready : s.req.opState ≠ .initializing)
    (ok : controlOk id value = true) : s.controlMove id value = s.controlAccepted id value := by
  unfold State.controlMove
  rw [if_neg ready, if_pos ok]

theorem controlOk_within {id hi value : Nat} (r : controlRange id = some (0, hi)) (le : value ≤ hi) :
    controlOk id value = true := by
  simp only [controlOk, r]
  exact inRange_iff.mpr ⟨Nat.zero_le _, le⟩

/-- A control row whose value is accepted does what its control does. -/
theorem exec_control {c : Instr} {id hi : Nat} {value : BitVec 8} {s : State} (ready : s.Ready)
    (row : exec c s = whenRunning (State.controlMove id value.toNat) s) (range : controlRange id = some (0, hi))
    (le : value.toNat ≤ hi) : exec c s = .next (s.controlAccepted id value.toNat) := by
  rw [row, whenRunning_running ready.1, controlMove_accepted ready.2 (controlOk_within range le)]

/-! ### Drawbar moves (R120) -/

theorem controlAccepted_drawbar (m : Manual) (n : Fin 9) (value : Nat) (s : State) :
    s.controlAccepted (drawbarControl m n) value = s.moveDrawbar m n value := by
  have lt := n.isLt
  have below : drawbarControl m n < 48 := by cases m <;> simp [drawbarControl, Manual.toFin] <;> omega
  have manual : drawbarControl m n / 16 = m.toFin.val := by unfold drawbarControl; omega
  have bar : Fin.ofNat 9 (drawbarControl m n % 16) = n := by
    ext
    simp only [Fin.ofNat, drawbarControl]
    omega
  unfold State.controlAccepted
  rw [if_pos below, manual, bar]
  cases m <;> rfl

/-- The drawbars of a manual once one of them has been set: its glide has ended (R120). -/
def barsAfter (m : Manual) (n : Fin 9) (value : Nat) (s : State) : Vector Drawbar 9 :=
  (s.reg.manualBars m).set n ⟨value, none⟩

theorem barsAfter_get (m : Manual) (n n' : Fin 9) (value : Nat) (s : State) :
    (barsAfter m n value s)[n'] = if n' = n then ⟨value, none⟩ else (s.reg.manualBars m)[n'] := by
  unfold barsAfter
  by_cases e : n' = n
  · subst e
    simp
  · have ne : (n : Nat) ≠ n' := fun h => e (Fin.ext h.symm)
    simp [e, Vector.getElem_set_ne, ne]

theorem anyTarget_iff {bars : Vector Drawbar 9} :
    anyTarget bars = true ↔ ∃ n : Fin 9, (bars[n]).target ≠ none := by
  simp only [anyTarget, Vector.any_eq_true, Option.isSome_iff_ne_none]
  exact ⟨fun ⟨i, lt, target⟩ => ⟨⟨i, lt⟩, target⟩, fun ⟨n, target⟩ => ⟨n, n.isLt, target⟩⟩

/-- A glide goes on after a move exactly where another drawbar has a target (R120). -/
theorem anyTarget_barsAfter {m : Manual} {n : Fin 9} {value : Nat} {s : State} :
    anyTarget (barsAfter m n value s) = true ↔
      ∃ n' : Fin 9, n' ≠ n ∧ ((s.reg.manualBars m)[n']).target ≠ none := by
  simp only [anyTarget_iff, barsAfter_get]
  refine ⟨fun ⟨n', target⟩ => ?_, fun ⟨n', ne, target⟩ => ⟨n', by rwa [if_neg ne]⟩⟩
  by_cases e : n' = n
  · rw [if_pos e] at target
    exact absurd rfl target
  · exact ⟨n', e, by rwa [if_neg e] at target⟩

theorem moveDrawbar_eq (m : Manual) (n : Fin 9) (value : Nat) (s : State) : s.moveDrawbar m n value
    = s.setReg (s.reg.setManual m (barsAfter m n value s)
      (if anyTarget (barsAfter m n value s) then s.reg.glide[m.toFin] else Timer.stopped)
      s.reg.pendingReg[m.toFin]) :=
  rfl

theorem moveDrawbar_pendingReg (m : Manual) (n : Fin 9) (value : Nat) (s : State) :
    (s.moveDrawbar m n value).reg.pendingReg = s.reg.pendingReg := by
  rw [moveDrawbar_eq, State.setReg_reg, Registration.setManual]
  simp

/-! ### The statement -/

/-- Settles O43: the sound by the laws of the audio path, each control by the case it comes to. -/
theorem controlsSetTheirValues : Obligations.ControlsSetTheirValues := by
  refine ⟨manualsSound, fun s value ready => ⟨fun m n le => ?_, fun le => ?_, fun le => ?_, fun mode is => ?_⟩⟩
  · have row := exec_control (c := .drawbarMove m n value) ready rfl (controlRange_drawbar m n) le
    rw [controlAccepted_drawbar] at row
    have eq := moveDrawbar_eq m n value.toNat s
    refine ⟨_, row, ?_, fun n' ne => ?_, fun m' ne => ⟨?_, ?_⟩, moveDrawbar_pendingReg _ _ _ _, rfl,
      fun other => ?_, fun others => ?_, s.moveDrawbar_frame _ _ _⟩
    · rw [eq, State.setReg_reg, manualBars_setManual, if_pos rfl, barsAfter_get, if_pos rfl]
    · rw [eq, State.setReg_reg, manualBars_setManual, if_pos rfl, barsAfter_get, if_neg ne]
    · rw [eq, State.setReg_reg, manualBars_setManual, if_neg ne]
    · rw [eq, State.setReg_reg, glide_setManual, if_neg ne]
    · rw [eq, State.setReg_reg, glide_setManual, if_pos rfl, if_pos (anyTarget_barsAfter.mpr other)]
    · rw [eq, State.setReg_reg, glide_setManual, if_pos rfl, if_neg]
      intro glides
      obtain ⟨n', ne, target⟩ := anyTarget_barsAfter.mp glides
      exact target (others n' ne)
  · exact exec_control (id := 48) ready rfl rfl le
  · have row : ∀ {c : Instr} {id : Nat}, exec c s = whenRunning (State.controlMove id value.toNat) s →
        controlRange id = some (0, 1) → exec c s = .next (s.controlAccepted id value.toNat) :=
      fun e range => exec_control ready e range le
    exact ⟨row (id := 50) rfl rfl, row (id := 51) rfl rfl, row (id := 52) rfl rfl, row (id := 57) rfl rfl,
      row (id := 58) rfl rfl⟩
  · have row := exec_control (c := .scannerMove .mode value) (id := 56) ready rfl rfl (by omega)
    have same : Fin.ofNat 7 mode.val = mode := Fin.ext (Nat.mod_eq_of_lt mode.isLt)
    rw [row, is]
    conv_rhs => rw [← same]
    rfl

end Sys2Proof.Machine.Busses
end

section
/-!
PROOFS. The order of the Engine Cache (06_wheel_engines.md R93 to R98): each engine stands in the one list or
queue that its state calls for and is bound to the wheel that it serves. An operation takes an engine in hand,
out of its place, changes it and gives it its new place; the law for an engine in hand carries the order from
the one place to the other.
-/

namespace Sys2Proof.Machine.Engines

open Sys2Proof.Machine.Requests Sys2Proof.Machine.Keys

/-! ### The order, with an engine in hand -/

/-- The wheel that an engine serves: its own, or in WRITING_BACK its next one (R94). -/
def serving (r : Engine) : Option Wheel :=
  match r.state with
  | .loading | .active | .idle => r.wheel
  | .writingBack => r.next
  | .free => none

theorem serves_iff {c : EngineCache} {e : EngineId} {w : Wheel} : c.Serves e w ↔ serving c.engines[e] = some w := by
  unfold EngineCache.Serves serving
  cases (c.engines[e]).state <;> simp

/-- An engine that an operation has taken out of its place, and the wheel that is still bound to it. -/
abbrev Hand : Type := Option (EngineId × Option Wheel)

/-- The state by which an engine has its place in the lists; an engine in hand has none. -/
def placeOf (c : EngineCache) (hand : Hand) (e : EngineId) : Option EngineState :=
  match hand with
  | none => some (c.engines[e]).state
  | some (x, _) => if e = x then none else some (c.engines[e]).state

/-- The wheel that is bound to an engine. -/
def boundTo (c : EngineCache) (hand : Hand) (e : EngineId) : Option Wheel :=
  match hand with
  | none => serving c.engines[e]
  | some (x, k) => if e = x then k else serving c.engines[e]

/-- The engine state in which a store request of a kind is pending (R98). -/
def pendingState : RequestKind → EngineState
  | .load => .loading
  | .writeBack => .writingBack

/-- The store requests of an engine of one kind. -/
def requestsOf (queue : List StoreRequest) (kind : RequestKind) (e : EngineId) : List StoreRequest :=
  queue.filter fun q => q.engine == e && q.kind == kind

/-- An engine record fits a demand: it is lawful, ACTIVE only on a demanded wheel and IDLE only on one that
is not (R93). -/
structure Fits (demanded : Wheel → Bool) (r : Engine) : Prop where
  lawful : r.Lawful
  active : ∀ w, r.state = .active → r.wheel = some w → demanded w = true
  idle : ∀ w, r.state = .idle → r.wheel = some w → demanded w = false

/-- The lists, the store queue, the bindings and the starved wheels stand by the engines' states and by the
demand, an engine in hand aside (R93, R94, R96 to R98). -/
structure Ordered (c : EngineCache) (demanded : Wheel → Bool) (hand : Hand) : Prop where
  free : ∀ e, c.free.count e = if placeOf c hand e = some .free then 1 else 0
  lru : ∀ e, c.lru.count e = if placeOf c hand e = some .idle then 1 else 0
  requests : ∀ kind e, (requestsOf c.queue kind e).length
    = if placeOf c hand e = some (pendingState kind) then 1 else 0
  queue : ∀ q ∈ c.queue, (c.engines[q.engine]).wheel = some q.wheel
  fits : ∀ e, placeOf c hand e ≠ none → Fits demanded c.engines[e]
  bound : ∀ (w : Wheel) e, (c.store[w]).bound = some e ↔ boundTo c hand e = some w
  starved : ∀ w : Wheel, c.starved.count w = if demanded w = true ∧ (c.store[w]).bound = none then 1 else 0
  waits : c.starved ≠ [] → c.free = [] ∧ c.lru = []

/-- The order with no engine in hand is what the laws of the Engine Cache say together. -/
theorem ordered_iff (s : State) :
    Ordered s.eng s.demanded none ↔ s.eng.Listed ∧ s.StarvedWaits ∧ s.EnginesBound := by
  have placed : ∀ e x, placeOf s.eng none e = some x ↔ (s.eng.engines[e]).state = x :=
    fun e x => Option.some_inj
  have demanded : ∀ w, s.demanded w = true ↔ s.bus.demand[w] ≠ 0 := fun w => bne_iff_ne
  have still : ∀ w, s.demanded w = false ↔ s.bus.demand[w] = 0 := fun w => by
    rw [State.demanded, bne_eq_false_iff_eq]
  constructor
  · intro h
    refine ⟨⟨fun e => ?_, fun e => ?_, fun e => ?_, fun e => ?_⟩, h.waits,
      ⟨fun e => (h.fits e nofun).lawful, fun w e => (h.bound w e).trans serves_iff.symm,
        fun e w a b => (demanded w).mp ((h.fits e nofun).active w a b),
        fun e w a b => (still w).mp ((h.fits e nofun).idle w a b), fun w => ?_, h.queue⟩⟩
    · simpa only [placed] using h.free e
    · simpa only [placed] using h.lru e
    · simpa only [placed, requestsOf, pendingState] using h.requests .load e
    · simpa only [placed, requestsOf, pendingState] using h.requests .writeBack e
    · simpa only [demanded] using h.starved w
  · rintro ⟨listed, waits, bound⟩
    refine ⟨fun e => ?_, fun e => ?_, fun kind e => ?_, bound.queue, fun e _ => ⟨bound.engines e,
      fun w a b => (demanded w).mpr (bound.active e w a b), fun w a b => (still w).mpr (bound.idle e w a b)⟩,
      fun w e => (bound.bound w e).trans serves_iff, fun w => ?_, waits⟩
    · simpa only [placed] using listed.free e
    · simpa only [placed] using listed.lru e
    · cases kind with
      | load => simpa only [placed, requestsOf, pendingState] using listed.loads e
      | writeBack => simpa only [placed, requestsOf, pendingState] using listed.writeBacks e
    · simpa only [demanded] using bound.starved w

/-! ### The place of one engine -/

section

variable {c c' : EngineCache} {D : Wheel → Bool} {e : EngineId} {k : Option Wheel} {w : Wheel}

@[simp] theorem placeOf_none (x : EngineId) : placeOf c none x = some (c.engines[x]).state := rfl

@[simp] theorem placeOf_hand : placeOf c (some (e, k)) e = none := if_pos rfl

theorem placeOf_other {x : EngineId} (ne : x ≠ e) : placeOf c (some (e, k)) x = some (c.engines[x]).state := if_neg ne

@[simp] theorem boundTo_hand : boundTo c (some (e, k)) e = k := if_pos rfl

theorem boundTo_other {x : EngineId} (ne : x ≠ e) : boundTo c (some (e, k)) x = serving c.engines[x] := if_neg ne

/-- c' is c with engine e, which stands nowhere in c, in the place that a state calls for. -/
structure Placed (e : EngineId) (x : EngineState) (c c' : EngineCache) : Prop where
  engines : c'.engines = c.engines
  store : c'.store = c.store
  starved : c'.starved = c.starved
  free : ∀ i, c'.free.count i = c.free.count i + if i = e ∧ x = .free then 1 else 0
  lru : ∀ i, c'.lru.count i = c.lru.count i + if i = e ∧ x = .idle then 1 else 0
  requests : ∀ kind i, (requestsOf c'.queue kind i).length
    = (requestsOf c.queue kind i).length + if i = e ∧ x = pendingState kind then 1 else 0
  queue : ∀ q, q ∈ c'.queue ↔ q ∈ c.queue ∨
    q.engine = e ∧ (c.engines[e]).wheel = some q.wheel ∧ pendingState q.kind = x

/-- An engine in hand takes the place that its state calls for. -/
theorem Ordered.place (h : Ordered c D (some (e, k))) (p : Placed e (c.engines[e]).state c c')
    (fits : Fits D c.engines[e]) (serves : serving c.engines[e] = k)
    (waits : c.starved ≠ [] → c'.free = [] ∧ c'.lru = []) : Ordered c' D none := by
  have counted : ∀ (x : EngineState) (i : EngineId),
      ((if placeOf c (some (e, k)) i = some x then 1 else 0) + if i = e ∧ (c.engines[e]).state = x then 1 else 0)
        = if placeOf c' none i = some x then 1 else 0 := by
    intro x i
    by_cases own : i = e
    · subst own
      simp [p.engines]
    · simp [placeOf_other own, own, p.engines]
  refine ⟨fun i => ?_, fun i => ?_, fun kind i => ?_, fun q m => ?_, fun i _ => ?_, fun w i => ?_, fun w => ?_, ?_⟩
  · rw [p.free, h.free, counted]
  · rw [p.lru, h.lru, counted]
  · rw [p.requests, h.requests, counted]
  · rw [p.engines]
    rcases (p.queue q).mp m with old | ⟨rfl, own, _⟩
    · exact h.queue q old
    · exact own
  · rw [p.engines]
    by_cases own : i = e
    · rwa [own]
    · exact h.fits i (by simp [placeOf_other own])
  · rw [p.store, h.bound]
    by_cases own : i = e
    · subst own
      rw [boundTo_hand, boundTo, p.engines, serves]
    · rw [boundTo_other own, boundTo, p.engines]
  · rw [p.starved, p.store, h.starved]
  · rwa [p.starved]

/-- An engine is taken out of its place. -/
theorem Ordered.take (h : Ordered c' D none) (p : Placed e (c'.engines[e]).state c c')
    (waits : c'.starved ≠ [] → c.free = [] ∧ c.lru = []) :
    Ordered c D (some (e, serving c'.engines[e])) := by
  have counted : ∀ (x : EngineState) (i : EngineId) (n : Nat),
      ((if placeOf c' none i = some x then 1 else 0) = n + if i = e ∧ (c'.engines[e]).state = x then 1 else 0) →
        n = if placeOf c (some (e, serving c'.engines[e])) i = some x then 1 else 0 := by
    intro x i n
    by_cases own : i = e
    · subst own
      simp
    · simp only [placeOf_other own, own, placeOf_none, p.engines, false_and, if_false, Nat.add_zero]
      exact Eq.symm
  refine ⟨fun i => ?_, fun i => ?_, fun kind i => ?_, fun q m => ?_, fun i _ => ?_, fun w i => ?_, fun w => ?_, ?_⟩
  · exact counted _ i _ ((h.free i).symm.trans (p.free i))
  · exact counted _ i _ ((h.lru i).symm.trans (p.lru i))
  · exact counted _ i _ ((h.requests kind i).symm.trans (p.requests kind i))
  · rw [← p.engines]
    exact h.queue q ((p.queue q).mpr (.inl m))
  · rw [← p.engines]
    exact h.fits i (by simp)
  · rw [← p.store, h.bound]
    by_cases own : i = e
    · subst own
      rw [boundTo_hand, boundTo]
    · rw [boundTo_other own, boundTo, p.engines]
  · rw [← p.starved, ← p.store, h.starved]
  · rwa [← p.starved]

/-- While an engine is in hand it has no store request. -/
theorem Ordered.not_queued (h : Ordered c D (some (e, k))) : ∀ q ∈ c.queue, q.engine ≠ e := by
  intro q m own
  have none := h.requests q.kind e
  rw [placeOf_hand, if_neg nofun, List.length_eq_zero_iff] at none
  have mem : q ∈ requestsOf c.queue q.kind e := List.mem_filter.mpr ⟨m, by simp [own]⟩
  rw [none] at mem
  cases mem

theorem setEngine_self (c : EngineCache) (e : EngineId) (r : Engine) : (c.setEngine e r).engines[e] = r := by
  rw [setEngine_get, if_pos rfl]

theorem setEngine_other (c : EngineCache) (r : Engine) {i : EngineId} (ne : i ≠ e) :
    (c.setEngine e r).engines[i] = c.engines[i] := by rw [setEngine_get, if_neg ne]

/-- The record of an engine in hand may change. -/
theorem Ordered.setEngine (h : Ordered c D (some (e, k))) (r : Engine) :
    Ordered (c.setEngine e r) D (some (e, k)) := by
  have same : ∀ i, placeOf (c.setEngine e r) (some (e, k)) i = placeOf c (some (e, k)) i := by
    intro i
    by_cases own : i = e
    · subst own
      simp
    · rw [placeOf_other own, placeOf_other own, setEngine_other c r own]
  refine ⟨fun i => ?_, fun i => ?_, fun kind i => ?_, fun q m => ?_, fun i place => ?_, fun w i => ?_, h.starved, h.waits⟩
  · rw [same]
    exact h.free i
  · rw [same]
    exact h.lru i
  · rw [same]
    exact h.requests kind i
  · rw [setEngine_other c r (h.not_queued q m)]
    exact h.queue q m
  · rw [same] at place
    have other : i ≠ e := fun own => place (by rw [own, placeOf_hand])
    rw [setEngine_other c r other]
    exact h.fits i place
  · refine (h.bound w i).trans ?_
    by_cases own : i = e
    · subst own
      simp
    · rw [boundTo_other own, boundTo_other own, setEngine_other c r own]

/-! ### Bindings and demand -/

theorem bindWheel_bound (c : EngineCache) (v w : Wheel) (b : Option EngineId) :
    ((c.bindWheel v b).store[w]).bound = if w = v then b else (c.store[w]).bound := by
  by_cases same : w = v
  · subst same
    simp [EngineCache.bindWheel]
  · have ne : (v : Nat) ≠ w := fun h => same (Fin.ext h.symm)
    simp [EngineCache.bindWheel, same, Vector.getElem_set_ne, ne]

/-- An engine in hand without a wheel is bound to one that is neither bound nor demanded. -/
theorem Ordered.bind (h : Ordered c D (some (e, none))) (unbound : (c.store[w]).bound = none) (still : D w = false) :
    Ordered (c.bindWheel w (some e)) D (some (e, some w)) := by
  refine ⟨h.free, h.lru, h.requests, h.queue, h.fits, fun v i => ?_, fun v => ?_, h.waits⟩
  · have old := h.bound v i
    rw [bindWheel_bound]
    by_cases own : i = e
    · subst own
      rw [boundTo_hand] at old
      rw [boundTo_hand]
      split
      · next here => simp [here]
      · next there =>
        rw [old]
        simp [Ne.symm there]
    · rw [boundTo_other own] at old
      rw [boundTo_other own]
      split
      · next here =>
        subst here
        rw [unbound] at old
        exact ⟨fun x => absurd (Option.some.inj x).symm own, fun x => absurd (old.mpr x) nofun⟩
      · exact old
  · refine (h.starved v).trans ?_
    rw [bindWheel_bound]
    by_cases here : v = w
    · simp [here, still]
    · rw [if_neg here]

/-- An engine in hand loses its wheel, which is not demanded. -/
theorem Ordered.unbind (h : Ordered c D (some (e, some w))) (still : D w = false) :
    Ordered (c.bindWheel w none) D (some (e, none)) := by
  have own : (c.store[w]).bound = some e := (h.bound w e).mpr boundTo_hand
  refine ⟨h.free, h.lru, h.requests, h.queue, h.fits, fun v i => ?_, fun v => ?_, h.waits⟩
  · have old := h.bound v i
    rw [bindWheel_bound]
    by_cases mine : i = e
    · subst mine
      rw [boundTo_hand] at old
      rw [boundTo_hand]
      split
      · simp
      · next there =>
        rw [old]
        simp [Ne.symm there]
    · rw [boundTo_other mine] at old
      rw [boundTo_other mine]
      split
      · next here =>
        subst here
        rw [own] at old
        exact ⟨nofun, fun x => absurd (Option.some.inj (old.mpr x)).symm mine⟩
      · exact old
  · refine (h.starved v).trans ?_
    rw [bindWheel_bound]
    by_cases here : v = w
    · simp [here, still]
    · rw [if_neg here]

/-- The demand of a wheel has changed and the Starved Wheel List with it, if the wheel is unbound; no ACTIVE
or IDLE engine sounds or keeps the wheel. -/
theorem Ordered.redemand {hand : Hand} (h : Ordered c D hand) (b : Bool) (l : List Wheel)
    (apart : ∀ e, placeOf c hand e = some .active ∨ placeOf c hand e = some .idle → (c.engines[e]).wheel ≠ some w)
    (own : l.count w = if b = true ∧ (c.store[w]).bound = none then 1 else 0)
    (others : ∀ v, v ≠ w → l.count v = c.starved.count v) (waits : l ≠ [] → c.free = [] ∧ c.lru = []) :
    Ordered { c with starved := l } (Function.update D w b) hand := by
  refine ⟨h.free, h.lru, h.requests, h.queue, fun e place => ?_, h.bound, fun v => ?_, waits⟩
  · obtain ⟨lawful, active, idle⟩ := h.fits e place
    have here : placeOf c hand e = some (c.engines[e]).state := by
      unfold placeOf at place ⊢
      grind
    refine ⟨lawful, fun v a keeps => ?_, fun v a keeps => ?_⟩
    · have ne : v ≠ w := fun same => apart e (.inl (here.trans (by rw [a]))) (same ▸ keeps)
      rw [Function.update_of_ne ne]
      exact active v a keeps
    · have ne : v ≠ w := fun same => apart e (.inr (here.trans (by rw [a]))) (same ▸ keeps)
      rw [Function.update_of_ne ne]
      exact idle v a keeps
  · by_cases same : v = w
    · subst same
      rw [Function.update_self]
      exact own
    · rw [Function.update_of_ne same]
      exact (others v same).trans (h.starved v)

/-- An ACTIVE or IDLE engine's wheel is bound to it. -/
theorem Ordered.keeper {hand : Hand} (h : Ordered c D hand) {i : EngineId}
    (place : placeOf c hand i = some .active ∨ placeOf c hand i = some .idle) (keeps : (c.engines[i]).wheel = some w) :
    (c.store[w]).bound = some i := by
  refine (h.bound w i).mpr ?_
  unfold placeOf at place
  unfold boundTo serving
  grind

/-- No ACTIVE or IDLE engine sounds or keeps a wheel that is unbound. -/
theorem Ordered.apart_of_unbound {hand : Hand} (h : Ordered c D hand) (unbound : (c.store[w]).bound = none) :
    ∀ e, placeOf c hand e = some .active ∨ placeOf c hand e = some .idle → (c.engines[e]).wheel ≠ some w :=
  fun e place keeps => by
    have own := h.keeper place keeps
    rw [unbound] at own
    cases own

/-- The demand of the wheel of the engine in hand may change. -/
theorem Ordered.redemand_hand (h : Ordered c D (some (e, some w))) (b : Bool) :
    Ordered c (Function.update D w b) (some (e, some w)) := by
  have own : (c.store[w]).bound = some e := (h.bound w e).mpr boundTo_hand
  refine h.redemand b c.starved (fun i place keeps => ?_) ?_ (fun _ _ => rfl) h.waits
  · have mine := h.keeper place keeps
    rw [own] at mine
    rw [← Option.some.inj mine, placeOf_hand] at place
    simp at place
  · have count := h.starved w
    rw [own, if_neg fun x => nomatch x.2] at count
    rw [own, if_neg fun x => nomatch x.2]
    exact count

/-- The first starved wheel leaves the Starved Wheel List as if it were not demanded. -/
theorem Ordered.popStarved {hand : Hand} (h : Ordered c D hand) {v : Wheel} {more : List Wheel}
    (starved : c.starved = v :: more) :
    Ordered { c with starved := more } (Function.update D v false) hand ∧ D v = true ∧ (c.store[v]).bound = none := by
  have count := h.starved v
  rw [starved, List.count_cons_self] at count
  obtain ⟨demanded, unbound⟩ : D v = true ∧ (c.store[v]).bound = none := by
    by_contra no
    rw [if_neg no] at count
    omega
  refine ⟨h.redemand false more (h.apart_of_unbound unbound) ?_ (fun x ne => ?_) fun _ => h.waits (by simp [starved]),
    demanded, unbound⟩
  · rw [if_pos ⟨demanded, unbound⟩] at count
    simpa using count
  · rw [starved, List.count_cons_of_ne (Ne.symm ne)]

/-- What the order does not speak of may change: tone states, dirty flags and settle counts, within the law of
a record, the wrap count and the readiness of the store. -/
theorem Ordered.congr {hand : Hand} (h : Ordered c D hand) (free : c'.free = c.free) (lru : c'.lru = c.lru)
    (queue : c'.queue = c.queue) (starved : c'.starved = c.starved)
    (state : ∀ e : EngineId, (c'.engines[e]).state = (c.engines[e]).state)
    (wheel : ∀ e : EngineId, (c'.engines[e]).wheel = (c.engines[e]).wheel)
    (next : ∀ e : EngineId, (c'.engines[e]).next = (c.engines[e]).next)
    (dirty : ∀ e : EngineId, (c.engines[e]).state = .free → (c.engines[e]).dirty = false → (c'.engines[e]).dirty = false)
    (settle : ∀ e : EngineId, (c.engines[e]).settle ≤ 256 → (c'.engines[e]).settle ≤ 256 ∧
      ((c.engines[e]).state ≠ .idle → (c'.engines[e]).settle = (c.engines[e]).settle))
    (bound : ∀ w : Wheel, (c'.store[w]).bound = (c.store[w]).bound) : Ordered c' D hand := by
  have place : ∀ e, placeOf c' hand e = placeOf c hand e := fun e => by simp only [placeOf, state]
  have serves : ∀ e, boundTo c' hand e = boundTo c hand e := fun e => by
    simp only [boundTo, serving, state, wheel, next]
  refine ⟨fun e => ?_, fun e => ?_, fun kind e => ?_, fun q m => ?_, fun e p => ?_, fun w e => ?_, fun w => ?_, ?_⟩
  · rw [free, place, h.free]
  · rw [lru, place, h.lru]
  · rw [queue, place, h.requests]
  · rw [wheel]
    exact h.queue q (queue ▸ m)
  · obtain ⟨lawful, active, idle⟩ := h.fits e (place e ▸ p)
    refine ⟨⟨?_, ?_, ?_, ?_⟩, ?_, ?_⟩
    · rw [state, wheel]
      exact fun f => ⟨(lawful.free f).1, dirty e f (lawful.free f).2⟩
    · rw [state, wheel]
      exact lawful.wheel
    · rw [state, wheel, next]
      exact lawful.next
    · obtain ⟨small, zero⟩ := lawful.settle
      rw [state]
      exact ⟨(settle e small).1, fun n => ((settle e small).2 n).trans (zero n)⟩
    · rw [state, wheel]
      exact active
    · rw [state, wheel]
      exact idle
  · rw [bound, serves, h.bound]
  · rw [starved, bound, h.starved]
  · rw [starved, free, lru]
    exact h.waits

end

end Sys2Proof.Machine.Engines
end

section
/-!
PROOFS. The operations of the Engine Cache keep its order (06_wheel_engines.md 6.2 to 6.7).
-/

namespace Sys2Proof.Machine.Engines

open Sys2Proof.Machine.Requests Sys2Proof.Machine.Keys

variable {c : EngineCache} {D : Wheel → Bool} {e : EngineId} {k : Option Wheel} {w : Wheel}

/-! ### The places -/

theorem count_cons_own {α : Type} [DecidableEq α] {a : α} (i : α) (l : List α) :
    (a :: l).count i = l.count i + if i = a then 1 else 0 := by
  rw [List.count_cons]
  exact congrArg (l.count i + ·) (if_congr (by rw [beq_iff_eq, eq_comm]) rfl rfl)

theorem count_concat_own {α : Type} [DecidableEq α] {a : α} (i : α) (l : List α) :
    (l ++ [a]).count i = l.count i + if i = a then 1 else 0 := by
  rw [List.count_append, count_cons_own, List.count_nil, Nat.zero_add]

theorem placed_free {l l' : List EngineId} (count : ∀ i, l'.count i = l.count i + if i = e then 1 else 0) :
    Placed e .free { c with free := l } { c with free := l' } := by
  refine ⟨rfl, rfl, rfl, fun i => ?_, fun i => ?_, fun kind i => ?_, fun q => ?_⟩
  · simpa using count i
  · simp
  · cases kind <;> simp [pendingState]
  · cases q.kind <;> simp [pendingState]

theorem placed_lru {l l' : List EngineId} (count : ∀ i, l'.count i = l.count i + if i = e then 1 else 0) :
    Placed e .idle { c with lru := l } { c with lru := l' } := by
  refine ⟨rfl, rfl, rfl, fun i => ?_, fun i => ?_, fun kind i => ?_, fun q => ?_⟩
  · simp
  · simpa using count i
  · cases kind <;> simp [pendingState]
  · cases q.kind <;> simp [pendingState]

/-- An ACTIVE engine stands in no list and in no queue. -/
theorem placed_active : Placed e .active c c := by
  refine ⟨rfl, rfl, rfl, fun i => ?_, fun i => ?_, fun kind i => ?_, fun q => ?_⟩
  · simp
  · simp
  · cases kind <;> simp [pendingState]
  · cases q.kind <;> simp [pendingState]

theorem requestsOf_singleton (kind kind' : RequestKind) (e i : EngineId) (w : Wheel) :
    (requestsOf [⟨e, kind, w⟩] kind' i).length = if i = e ∧ pendingState kind = pendingState kind' then 1 else 0 := by
  by_cases own : i = e
  · subst own
    cases kind <;> cases kind' <;> simp [requestsOf, pendingState]
  · simp [requestsOf, own, Ne.symm own]

theorem placed_queue {kind : RequestKind} {l l' : List StoreRequest} {b b' : Bool}
    (own : (c.engines[e]).wheel = some w) (perm : l'.Perm (⟨e, kind, w⟩ :: l)) :
    Placed e (pendingState kind) { c with queue := l, storeReady := b } { c with queue := l', storeReady := b' } := by
  refine ⟨rfl, rfl, rfl, fun i => ?_, fun i => ?_, fun kind' i => ?_, fun q => ?_⟩
  · cases kind <;> simp [pendingState]
  · cases kind <;> simp [pendingState]
  · have both : requestsOf (⟨e, kind, w⟩ :: l) kind' i = requestsOf [⟨e, kind, w⟩] kind' i ++ requestsOf l kind' i :=
      List.filter_append (p := fun q : StoreRequest => q.engine == i && q.kind == kind') [⟨e, kind, w⟩] l
    calc (requestsOf l' kind' i).length = (requestsOf (⟨e, kind, w⟩ :: l) kind' i).length := (perm.filter _).length_eq
      _ = (requestsOf l kind' i).length + (requestsOf [⟨e, kind, w⟩] kind' i).length := by
        rw [both, List.length_append, Nat.add_comm]
      _ = _ := by rw [requestsOf_singleton]
  · rw [perm.mem_iff, List.mem_cons, or_comm]
    refine or_congr_right ⟨?_, ?_⟩
    · rintro rfl
      exact ⟨rfl, own, rfl⟩
    · rintro ⟨rfl, keeps, same⟩
      rw [own] at keeps
      obtain ⟨i, kind', v⟩ := q
      cases Option.some.inj keeps
      cases kind <;> cases kind' <;> cases same <;> rfl

/-- An engine on the Free List is FREE. -/
theorem Ordered.state_free (h : Ordered c D none) (mem : e ∈ c.free) : (c.engines[e]).state = .free := by
  have count := h.free e
  have pos := List.count_pos_iff.mpr mem
  by_contra no
  rw [placeOf_none, if_neg fun x => no (Option.some.inj x)] at count
  omega

/-- An engine on the LRU List is IDLE. -/
theorem Ordered.state_idle (h : Ordered c D none) (mem : e ∈ c.lru) : (c.engines[e]).state = .idle := by
  have count := h.lru e
  have pos := List.count_pos_iff.mpr mem
  by_contra no
  rw [placeOf_none, if_neg fun x => no (Option.some.inj x)] at count
  omega

/-- Whose request stands in the queue is in the state of its kind. -/
theorem Ordered.queued_state (h : Ordered c D none) {q : StoreRequest} (mem : q ∈ c.queue) :
    (c.engines[q.engine]).state = pendingState q.kind := by
  have count := h.requests q.kind q.engine
  have here : q ∈ requestsOf c.queue q.kind q.engine := List.mem_filter.mpr ⟨mem, by simp⟩
  have pos := List.length_pos_of_mem here
  by_contra no
  rw [placeOf_none, if_neg fun x => no (Option.some.inj x)] at count
  omega

/-! ### What the order does not speak of -/

theorem Ordered.storeTone {hand : Hand} (h : Ordered c D hand) (w : Wheel) (tone : ToneState) :
    Ordered (c.storeTone w tone) D hand := by
  refine h.congr rfl rfl rfl rfl (fun _ => rfl) (fun _ => rfl) (fun _ => rfl) (fun _ _ => id)
    (fun _ small => ⟨small, fun _ => rfl⟩) fun v => ?_
  rw [Busses.storeTone_store]
  split <;> rfl

/-- Between two records of an engine nothing differs that decides its place: its tone state may, the dirty flag
of an engine that is not FREE, and the settle count of an IDLE one, up to 256 (R93). -/
structure Retuned (r q : Engine) : Prop where
  state : q.state = r.state
  wheel : q.wheel = r.wheel
  next : q.next = r.next
  dirty : r.state = .free → q.dirty = r.dirty
  settle : r.settle ≤ 256 → q.settle ≤ 256 ∧ (r.state ≠ .idle → q.settle = r.settle)

theorem Retuned.refl (r : Engine) : Retuned r r := ⟨rfl, rfl, rfl, fun _ => rfl, fun small => ⟨small, fun _ => rfl⟩⟩

/-- The engines are the same but for what their places do not depend on. -/
theorem Ordered.retune {hand : Hand} (h : Ordered c D hand) {l : Vector Engine 64}
    (same : ∀ e : EngineId, Retuned c.engines[e] l[e]) {wrap : BitVec 8} {ready : Bool} :
    Ordered { c with engines := l, wrap := wrap, storeReady := ready } D hand :=
  h.congr rfl rfl rfl rfl (fun e => (same e).state) (fun e => (same e).wheel) (fun e => (same e).next)
    (fun e free clean => ((same e).dirty free).trans clean) (fun e => (same e).settle) fun _ => rfl

theorem Ordered.retuneOne {hand : Hand} (h : Ordered c D hand) {r : Engine} (same : Retuned c.engines[e] r) :
    Ordered (c.setEngine e r) D hand := by
  refine h.retune fun i => ?_
  by_cases own : i = e
  · rw [own]
    exact (setEngine_self c e r).symm ▸ same
  · exact (setEngine_other c r own).symm ▸ .refl _

/-! ### An engine in hand is given its new place (R96, R98, R99) -/

/-- A store request is queued for the engine in hand (R98). -/
theorem Ordered.enqueue (h : Ordered c D (some (e, k))) {kind : RequestKind}
    (state : (c.engines[e]).state = pendingState kind) (own : (c.engines[e]).wheel = some w)
    (fits : Fits D c.engines[e]) (serves : serving c.engines[e] = k) :
    Ordered (c.enqueue ⟨e, kind, w⟩) D none :=
  h.place (state ▸ placed_queue own (List.perm_append_comm)) fits serves h.waits

/-- The record of an engine that loads a wheel (R98). -/
abbrev loadingRecord (r : Engine) (w : Wheel) : Engine :=
  { r with state := .loading, wheel := some w, settle := 0, next := none }

theorem fits_loading (r : Engine) (w : Wheel) : Fits D (loadingRecord r w) :=
  ⟨⟨nofun, fun _ => nofun, fun n => absurd rfl n, Nat.zero_le _, fun _ => rfl⟩, nofun, nofun⟩

theorem bindWheel_self (own : (c.store[w]).bound = some e) : c.bindWheel w (some e) = c := by
  unfold EngineCache.bindWheel
  rw [← own]
  exact congrArg (fun store => { c with store := store }) (Vector.set_getElem_self _)

/-- The engine in hand loads the wheel that is bound to it. -/
theorem Ordered.startLoad (h : Ordered c D (some (e, some w))) : Ordered (c.startLoad e w) D none := by
  have loading := h.setEngine (loadingRecord c.engines[e] w)
  have own : ((c.setEngine e (loadingRecord c.engines[e] w)).store[w]).bound = some e :=
    (h.bound w e).mpr boundTo_hand
  unfold EngineCache.startLoad
  rw [bindWheel_self own]
  apply loading.enqueue (k := some w) <;> rw [setEngine_self]
  · rfl
  · exact fits_loading _ w
  · rfl

/-- The engine in hand is bound to a demanded wheel that was unbound, and loads it. -/
theorem Ordered.startLoad_new (h : Ordered c (Function.update D w false) (some (e, none)))
    (unbound : (c.store[w]).bound = none) (demanded : D w = true) : Ordered (c.startLoad e w) D none := by
  have bound := ((h.setEngine (loadingRecord c.engines[e] w)).bind unbound (Function.update_self ..)).redemand_hand true
  rw [Function.update_idem, ← demanded, Function.update_eq_self] at bound
  unfold EngineCache.startLoad
  refine bound.enqueue ?_ ?_ ?_ ?_ <;> rw [EngineCache.bindWheel] <;> dsimp only <;> rw [setEngine_self]
  · rfl
  · exact fits_loading _ w
  · rfl

/-- The record of an engine that writes its wheel back and will load another or none (R101, R111). -/
abbrev writingRecord (r : Engine) (next : Option Wheel) : Engine :=
  { r with state := .writingBack, settle := 0, next := next }

theorem fits_writing {r : Engine} (own : r.wheel = some w) {next : Option Wheel} (other : next ≠ some w) :
    Fits D (writingRecord r next) :=
  ⟨⟨nofun, fun _ n => (nomatch own.symm.trans n), fun _ => ⟨rfl, fun same => other (same.trans own)⟩, Nat.zero_le _,
    fun _ => rfl⟩, nofun, nofun⟩

/-- The engine in hand writes its wheel back, which is not demanded, and has no next wheel (R111). -/
theorem Ordered.startWriteBack_none (h : Ordered c D (some (e, some w))) (still : D w = false)
    (own : (c.engines[e]).wheel = some w) : Ordered (c.startWriteBack e w none) D none := by
  have writing := (h.unbind still).setEngine (writingRecord c.engines[e] none)
  unfold EngineCache.startWriteBack
  refine writing.enqueue ?_ ?_ ?_ ?_ <;> rw [setEngine_self]
  · rfl
  · exact own
  · exact fits_writing own nofun
  · rfl

/-- The engine in hand writes its wheel back, which is not demanded, and is bound to a demanded wheel that was
unbound (R99, R101). -/
theorem Ordered.startWriteBack_next {v : Wheel} (h : Ordered c (Function.update D w false) (some (e, some v)))
    (still : D v = false) (own : (c.engines[e]).wheel = some v) (unbound : (c.store[w]).bound = none)
    (demanded : D w = true) : Ordered (c.startWriteBack e v (some w)) D none := by
  have other : v ≠ w := fun same => by rw [same, demanded] at still; cases still
  have free : ((c.bindWheel v none).store[w]).bound = none := by rw [bindWheel_bound, if_neg other.symm, unbound]
  have unbinds := h.unbind (by rw [Function.update_of_ne other, still])
  have bound := ((unbinds.setEngine (writingRecord c.engines[e] (some w))).bind free
    (Function.update_self ..)).redemand_hand true
  rw [Function.update_idem, ← demanded, Function.update_eq_self] at bound
  unfold EngineCache.startWriteBack
  refine bound.enqueue ?_ ?_ ?_ ?_ <;> rw [EngineCache.bindWheel] <;> dsimp only <;> rw [setEngine_self]
  · rfl
  · exact own
  · exact fits_writing own fun same => other (Option.some.inj same).symm
  · rfl

/-- The engine in hand becomes FREE while no wheel is starved (R96, R104). -/
theorem Ordered.freeEngine (h : Ordered c D (some (e, none))) (enough : c.starved = []) :
    Ordered (c.freeEngine e) D none := by
  have freed := h.setEngine { c.engines[e] with
    state := .free, wheel := none, dirty := false, settle := 0, next := none }
  refine freed.place ?_ ?_ ?_ (fun n => absurd enough n) <;> rw [setEngine_self]
  · exact placed_free (c := c.setEngine e _) fun i => count_concat_own i _
  · exact ⟨⟨fun _ => ⟨rfl, rfl⟩, fun n => absurd rfl n, fun n => absurd rfl n, Nat.zero_le _, fun _ => rfl⟩, nofun, nofun⟩
  · rfl

/-- The engine in hand would become FREE (R99, R104). -/
theorem Ordered.wouldFree (h : Ordered c D (some (e, none))) : Ordered (c.wouldFree e) D none := by
  unfold EngineCache.wouldFree
  split
  · next enough => exact h.freeEngine enough
  · next v more starved =>
    obtain ⟨popped, demanded, unbound⟩ := h.popStarved starved
    exact (popped.setEngine _).startLoad_new unbound demanded

/-- The engine in hand, keeping its wheel, would become IDLE (R99, R102, R103). -/
theorem Ordered.wouldIdle (h : Ordered c D (some (e, some w))) (still : D w = false)
    (own : (c.engines[e]).wheel = some w) (nothing : (c.engines[e]).next = none) : Ordered (c.wouldIdle e w) D none := by
  have mine : (c.store[w]).bound = some e := (h.bound w e).mpr boundTo_hand
  unfold EngineCache.wouldIdle
  split
  · next enough =>
    have idle := h.setEngine { c.engines[e] with state := .idle, settle := 0, ticked := true }
    refine idle.place ?_ ?_ ?_ (fun n => absurd enough n) <;> rw [setEngine_self]
    · exact placed_lru (c := c.setEngine e _) fun i => count_cons_own i _
    · refine ⟨⟨nofun, fun _ n => (nomatch own.symm.trans n), fun n => absurd nothing n, Nat.zero_le _, fun _ => rfl⟩,
        nofun, fun v _ keeps => ?_⟩
      rw [← Option.some.inj (own.symm.trans keeps), still]
    · exact own
  · next v more starved =>
    obtain ⟨popped, demanded, unbound⟩ := h.popStarved starved
    have other : w ≠ v := fun same => by rw [same, demanded] at still; cases still
    dsimp only
    split
    · exact popped.startWriteBack_next still own unbound demanded
    · refine (popped.unbind (by rw [Function.update_of_ne other, still])).startLoad_new ?_ demanded
      rw [bindWheel_bound, if_neg other.symm]
      exact unbound

/-! ### DEMAND UP and DEMAND DOWN (R100 to R102) -/

/-- The engine that a wheel is bound to serves it in one of four states. -/
theorem Ordered.bound_cases (h : Ordered c D none) (bound : (c.store[w]).bound = some e) :
    ((c.engines[e]).state = .active ∧ (c.engines[e]).wheel = some w ∧ D w = true) ∨
    ((c.engines[e]).state = .idle ∧ (c.engines[e]).wheel = some w ∧ D w = false) ∨
    (c.engines[e]).state = .loading ∨ (c.engines[e]).state = .writingBack := by
  have serves : serving c.engines[e] = some w := (h.bound w e).mp bound
  obtain ⟨-, active, idle⟩ := h.fits e nofun
  unfold serving at serves
  cases state : (c.engines[e]).state with
  | free => rw [state] at serves; cases serves
  | loading => exact .inr (.inr (.inl rfl))
  | writingBack => exact .inr (.inr (.inr rfl))
  | active =>
    rw [state] at serves
    exact .inl ⟨rfl, serves, active w state serves⟩
  | idle =>
    rw [state] at serves
    exact .inr (.inl ⟨rfl, serves, idle w state serves⟩)

/-- The demand of a wheel whose engine is LOADING or WRITING_BACK changes (R79). -/
theorem Ordered.redemand_busy (h : Ordered c D none) (bound : (c.store[w]).bound = some e)
    (busy : (c.engines[e]).state = .loading ∨ (c.engines[e]).state = .writingBack) (b : Bool) :
    Ordered c (Function.update D w b) none := by
  refine h.redemand b c.starved (fun i place keeps => ?_) ?_ (fun _ _ => rfl) h.waits
  · have mine := h.keeper place keeps
    rw [bound] at mine
    rw [← Option.some.inj mine, placeOf_none] at place
    rcases busy with state | state <;> rw [state] at place <;> simp at place
  · have count := h.starved w
    rw [bound, if_neg fun x => nomatch x.2] at count
    rw [bound, if_neg fun x => nomatch x.2]
    exact count

/-- DEMAND DOWN (R102). -/
theorem Ordered.demandDown (h : Ordered c D none) (demanded : D w = true) :
    Ordered (c.demandDown w) (Function.update D w false) none := by
  cases bound : (c.store[w]).bound with
  | none =>
    rw [EngineCache.demandDown, bound]
    refine h.redemand false _ (h.apart_of_unbound bound) ?_ (fun v ne => ?_) fun n => h.waits fun nil => n (by rw [nil]; rfl)
    · simp [List.count_eq_zero]
    · exact List.count_filter (by simpa using ne)
  | some e =>
    rw [demandDown_bound bound]
    rcases h.bound_cases bound with ⟨active, own, _⟩ | ⟨_, _, still⟩ | busy
    · have taken := h.take (e := e) (active ▸ placed_active) h.waits
      have serves : serving c.engines[e] = some w := (h.bound w e).mp bound
      rw [serves] at taken
      rw [if_pos active]
      refine (taken.redemand_hand false).wouldIdle (Function.update_self ..) own ?_
      by_contra next
      have writing := ((h.fits e nofun).lawful.next next).1
      rw [active] at writing
      cases writing
    · rw [demanded] at still
      cases still
    · rw [if_neg fun active => by rw [active] at busy; simp at busy]
      exact h.redemand_busy bound busy false

/-- An IDLE engine is taken off the LRU List. -/
theorem Ordered.takeIdle (h : Ordered c D none) (idle : (c.engines[e]).state = .idle) {l : List EngineId}
    (count : ∀ i, c.lru.count i = l.count i + if i = e then 1 else 0) :
    ∃ v, (c.engines[e]).wheel = some v ∧ D v = false ∧ Ordered { c with lru := l } D (some (e, some v)) := by
  obtain ⟨lawful, -, still⟩ := h.fits e nofun
  obtain ⟨v, own⟩ := Option.ne_none_iff_exists'.mp (lawful.wheel (by rw [idle]; nofun))
  have some : c.lru ≠ [] := fun nil => by
    have one := count e
    rw [nil, if_pos rfl] at one
    simp at one
  have taken := h.take (c := { c with lru := l }) (e := e) (idle ▸ placed_lru count)
    fun starved => absurd (h.waits starved).2 some
  have serves : serving c.engines[e] = Option.some v := by rw [serving, idle, own]
  rw [serves] at taken
  exact ⟨v, own, still v idle own, taken⟩

/-- The tail of the LRU List is evicted for a wheel (R101). -/
theorem Ordered.evict (h : Ordered c D none) (still : D w = false) (unbound : (c.store[w]).bound = none)
    (last : c.lru.getLast? = some e) : Ordered (c.evict e w).1 (Function.update D w true) none := by
  obtain ⟨rest, lru⟩ : ∃ rest, c.lru = rest ++ [e] := ⟨c.lru.dropLast, (List.dropLast_append_getLast? e last).symm⟩
  have idle := h.state_idle (e := e) (by rw [lru]; exact List.mem_concat_self)
  obtain ⟨v, own, low, taken⟩ := h.takeIdle idle (l := c.lru.dropLast) fun i => by
    rw [lru, List.dropLast_concat]
    exact count_concat_own i _
  have mine : (c.store[v]).bound = some e := (taken.bound v e).mpr boundTo_hand
  have other : w ≠ v := fun same => by rw [same, mine] at unbound; cases unbound
  have before : Function.update (Function.update D w true) w false = D := by
    rw [Function.update_idem, ← still, Function.update_eq_self]
  rw [evict_wheel w own]
  split
  · refine Ordered.startWriteBack_next (by rwa [before]) ?_ own unbound (Function.update_self ..)
    rw [Function.update_of_ne other.symm, low]
  · refine Ordered.startLoad_new (by rw [before]; exact taken.unbind low) ?_ (Function.update_self ..)
    rw [bindWheel_bound, if_neg other]
    exact unbound

/-- DEMAND UP (R100, R101). -/
theorem Ordered.demandUp (h : Ordered c D none) (still : D w = false) :
    Ordered (c.demandUp w).1 (Function.update D w true) none := by
  cases bound : (c.store[w]).bound with
  | some e =>
    rw [demandUp_bound bound]
    rcases h.bound_cases bound with ⟨_, _, demanded⟩ | ⟨idle, own, _⟩ | busy
    · rw [demanded] at still
      cases still
    · have once : c.lru.count e = 1 := by rw [h.lru, if_pos (by rw [placeOf_none, idle])]
      obtain ⟨v, keeps, -, taken⟩ := h.takeIdle idle (l := c.lru.filter fun x => x != e) fun i => by
        by_cases same : i = e
        · subst same
          simp [once, List.count_eq_zero]
        · simp [List.count_filter, same]
      cases Option.some.inj (own.symm.trans keeps)
      have revived := (taken.redemand_hand true).setEngine { c.engines[e] with state := .active, settle := 0 }
      obtain ⟨lawful, -, -⟩ := h.fits e nofun
      rw [if_pos idle]
      refine revived.place ?_ ?_ ?_ revived.waits <;> rw [setEngine_self]
      · exact placed_active
      · refine ⟨⟨nofun, fun _ => lawful.wheel (by rw [idle]; nofun), fun next => ?_, Nat.zero_le _, fun _ => rfl⟩,
          fun v _ mine => ?_, nofun⟩
        · have writing := (lawful.next next).1
          rw [idle] at writing
          cases writing
        · rw [← Option.some.inj (own.symm.trans mine), Function.update_self]
      · exact own
    · rw [if_neg fun idle => by rw [idle] at busy; simp at busy]
      exact h.redemand_busy bound busy true
  | none =>
    rw [demandUp_unbound bound]
    unfold EngineCache.allocate
    split
    · next e rest free =>
      have state := h.state_free (e := e) (by rw [free]; exact List.mem_cons_self)
      have placed : Placed e .free { c with free := rest } { c with free := e :: rest } :=
        placed_free fun i => count_cons_own i _
      have taken := h.take (c := { c with free := rest }) (e := e) (by rw [state]; rwa [← free] at placed)
        fun starved => absurd (h.waits starved).1 (by rw [free]; nofun)
      have serves : serving c.engines[e] = none := by rw [serving, state]
      rw [serves] at taken
      refine Ordered.startLoad_new ?_ bound (Function.update_self ..)
      rwa [Function.update_idem, ← still, Function.update_eq_self]
    · next free =>
      split
      · next e last => exact h.evict still bound last
      · next nil =>
        have zero := h.starved w
        rw [if_neg fun x => by rw [still] at x; cases x.1] at zero
        refine h.redemand true _ (h.apart_of_unbound bound) ?_ (fun v ne => ?_)
          fun _ => ⟨free, List.getLast?_eq_none_iff.mp nil⟩
        · rw [count_concat_own, zero, if_pos rfl, if_pos ⟨rfl, bound⟩]
        · rw [count_concat_own, if_neg ne, Nat.add_zero]

/-! ### Completions (R103, R104) -/

/-- The head store request is taken with its engine. -/
theorem Ordered.popRequest (h : Ordered c D none) {kind : RequestKind} {rest : List StoreRequest}
    (queue : c.queue = ⟨e, kind, w⟩ :: rest) : (c.engines[e]).state = pendingState kind ∧
      (c.engines[e]).wheel = some w ∧ Ordered c.popRequest D (some (e, serving c.engines[e])) := by
  have mem : (⟨e, kind, w⟩ : StoreRequest) ∈ c.queue := by rw [queue]; exact List.mem_cons_self
  have state := h.queued_state mem
  have own := h.queue _ mem
  refine ⟨state, own, h.take ?_ h.waits⟩
  rw [state]
  exact placed_queue own (by rw [queue]; exact .refl _)

/-- A LOAD completes (R103). -/
theorem Ordered.loadComplete (h : Ordered c D none) {rest : List StoreRequest}
    (queue : c.queue = ⟨e, .load, w⟩ :: rest) : Ordered (c.loadComplete e w (D w)) D none := by
  obtain ⟨state, own, taken⟩ := h.popRequest queue
  have serves : serving c.engines[e] = some w := by rw [serving, state]; exact own
  have nothing : (c.engines[e]).next = none := by
    by_contra next
    have writing := ((h.fits e nofun).lawful.next next).1
    rw [state] at writing
    cases writing
  rw [serves] at taken
  have loaded := taken.setEngine { c.engines[e] with tone := (c.store[w]).tone, dirty := false }
  unfold EngineCache.loadComplete
  dsimp only
  split
  · next demanded =>
    have active := loaded.setEngine { (c.popRequest.setEngine e { c.engines[e] with
      tone := (c.store[w]).tone, dirty := false }).engines[e] with state := .active }
    refine active.place ?_ ?_ ?_ active.waits <;> rw [setEngine_self, setEngine_self]
    · exact placed_active
    · refine ⟨⟨nofun, fun _ n => (nomatch own.symm.trans n), fun next => absurd nothing next, ?_⟩, fun v _ keeps => ?_, nofun⟩
      · have zero := (h.fits e nofun).lawful.settle.2 (by rw [state]; nofun)
        exact ⟨zero.le.trans (Nat.zero_le _), fun _ => zero⟩
      · rw [← Option.some.inj (own.symm.trans keeps), demanded]
    · exact own
  · next low =>
    refine loaded.wouldIdle (Bool.eq_false_iff.mpr low) ?_ ?_ <;> rw [setEngine_self]
    · exact own
    · exact nothing

/-- A WRITE_BACK completes (R104). -/
theorem Ordered.writeBackComplete (h : Ordered c D none) {rest : List StoreRequest}
    (queue : c.queue = ⟨e, .writeBack, w⟩ :: rest) : Ordered (c.writeBackComplete e w D) D none := by
  obtain ⟨state, -, taken⟩ := h.popRequest queue
  have serves : serving c.engines[e] = (c.engines[e]).next := by rw [serving, state]; rfl
  have stored : Ordered (c.popRequest.storeTone w (c.engines[e]).tone) D (some (e, (c.engines[e]).next)) := by
    rw [serves] at taken
    exact taken.storeTone w _
  have written := stored.setEngine { c.engines[e] with wheel := none }
  unfold EngineCache.writeBackComplete
  dsimp only
  split
  · next none =>
    rw [none] at written
    exact written.wouldFree
  · next v next =>
    rw [next] at written
    split
    · exact written.startLoad
    · next low => exact (written.unbind (Bool.eq_false_iff.mpr low)).wouldFree

/-! ### FLUSH_ENGINES (R111) -/

theorem Ordered.flushOne {l : List EngineId} (h : Ordered { c with lru := l ++ [e] } D none) :
    Ordered { c.flushOne e with lru := l } D none := by
  have enough : c.starved = [] := by
    by_contra starved
    simpa using (h.waits starved).2
  have idle := h.state_idle (e := e) List.mem_concat_self
  obtain ⟨v, own, low, taken⟩ := h.takeIdle idle (l := l) fun i => count_concat_own i l
  have same : { c.flushOne e with lru := l } = ({ c with lru := l } : EngineCache).flushOne e := by
    unfold EngineCache.flushOne
    dsimp only
    rw [own]
    dsimp only
    split <;> rfl
  rw [same, EngineCache.flushOne]
  dsimp only
  rw [own]
  dsimp only
  split
  · exact taken.startWriteBack_none low own
  · exact (taken.unbind low).freeEngine enough

/-- Engines flushed one after another from the tail of the LRU List. -/
theorem Ordered.flushes (l : List EngineId) : ∀ {c : EngineCache}, Ordered { c with lru := l.reverse } D none →
    Ordered { l.foldl EngineCache.flushOne c with lru := [] } D none := by
  induction l with
  | nil => exact fun h => h
  | cons e l ih =>
    intro c h
    rw [List.reverse_cons] at h
    exact ih h.flushOne

theorem flushes_lru (l : List EngineId) (c : EngineCache) : (l.foldl EngineCache.flushOne c).lru = c.lru := by
  refine List.foldlRecOn (motive := fun d : EngineCache => d.lru = c.lru) l _ rfl fun d same e _ => ?_
  refine Eq.trans ?_ same
  unfold EngineCache.flushOne
  dsimp only
  split
  · rfl
  · split <;> rfl

/-- FLUSH_ENGINES takes every engine off the LRU List. -/
theorem Ordered.flush (h : Ordered c D none) : Ordered c.flush D none := by
  have flushed := Ordered.flushes (D := D) c.lru.reverse (c := { c with lru := [] }) (by rwa [List.reverse_reverse])
  have lru : c.flush.lru = [] := flushes_lru _ _
  have same : { c.flush with lru := [] } = c.flush := by rw [← lru]
  exact same ▸ flushed

/-! ### Settling and sounding (R106 to R108) -/

theorem Ordered.settleTick {hand : Hand} (h : Ordered c D hand) (e : EngineId) : Ordered (c.settleTick e) D hand := by
  unfold EngineCache.settleTick
  dsimp only
  split
  · next due =>
    obtain ⟨idle, -⟩ := due
    split
    · have settled := h.retuneOne (e := e) (r := { c.engines[e] with
          settle := 256, ticked := true, dirty := false, tone := ToneState.rest })
        ⟨rfl, rfl, rfl, fun free => by rw [idle] at free; (cases free), fun _ => ⟨le_rfl, fun n => absurd idle n⟩⟩
      split
      · split
        · exact settled.storeTone _ _
        · exact settled
      · exact settled
    · exact h.retuneOne ⟨rfl, rfl, rfl, fun _ => rfl, fun _ => ⟨min_le_left _ _, fun n => absurd idle n⟩⟩
  · exact h

/-- An engine record after its part in a tick, with the tone state that it has rendered (R106, R108). -/
def sounded (r : Engine) (tone : ToneState) : Engine :=
  if r.state = .active ∧ r.wheel ≠ none then { r with tone := tone, dirty := true }
  else if r.state = .idle ∧ r.wheel ≠ none ∧ r.settle ≠ 256 then { r with tone := tone }
  else r

theorem setEngine_same (c : EngineCache) (e : EngineId) : c.setEngine e c.engines[e] = c :=
  congrArg (fun engines => { c with engines := engines }) (Vector.set_getElem_self _)

theorem renderEngine_sounded (s : State) (a : Rendered) (e : EngineId) :
    ∃ tone, (s.renderEngine a e).cache = a.cache.setEngine e (sounded a.cache.engines[e] tone) := by
  unfold State.renderEngine
  dsimp only
  split
  · next w active own =>
    refine ⟨(Config.pickup w (a.cache.engines[e]).tone (s.wheelWaveform w)).1, ?_⟩
    rw [sounded, if_pos ⟨active, by rw [own]; nofun⟩]
  · next w idle own =>
    have silent : ¬ ((a.cache.engines[e]).state = .active ∧ (a.cache.engines[e]).wheel ≠ none) :=
      fun active => nomatch idle.symm.trans active.1
    split
    · next settled =>
      refine ⟨ToneState.rest, ?_⟩
      rw [sounded, if_neg silent, if_neg fun h => h.2.2 settled, setEngine_same]
    · next settles =>
      refine ⟨(Config.undrivenPickup.step w (a.cache.engines[e]).tone (s.wheelWaveform w)).1, ?_⟩
      rw [sounded, if_neg silent, if_pos ⟨idle, by rw [own]; nofun, settles⟩]
  · next active idle =>
    refine ⟨ToneState.rest, ?_⟩
    have no : ∀ x, (∀ w, (a.cache.engines[e]).state = x → (a.cache.engines[e]).wheel = some w → False) →
        ¬ ((a.cache.engines[e]).state = x ∧ (a.cache.engines[e]).wheel ≠ none) := fun x never h =>
      (Option.ne_none_iff_exists'.mp h.2).elim fun w own => never w h.1 own
    rw [sounded, if_neg (no _ active), if_neg fun h => no _ idle ⟨h.1, h.2.1⟩, setEngine_same]

theorem retuned_sounded (r : Engine) (tone : ToneState) : Retuned r (sounded r tone) := by
  unfold sounded
  split
  · next active =>
    exact ⟨rfl, rfl, rfl, fun free => (nomatch active.1.symm.trans free), fun small => ⟨small, fun _ => rfl⟩⟩
  · split
    · exact ⟨rfl, rfl, rfl, fun _ => rfl, fun small => ⟨small, fun _ => rfl⟩⟩
    · exact .refl r

/-- Rendering changes no engine's place. -/
theorem Ordered.render {s : State} {hand : Hand} (h : Ordered s.eng D hand) : Ordered s.renderEngines.cache D hand := by
  refine List.foldlRecOn (motive := fun a : Rendered => Ordered a.cache D hand) _ _ h fun a ordered e _ => ?_
  obtain ⟨tone, cache⟩ := renderEngine_sounded s a e
  rw [cache]
  exact ordered.retuneOne (retuned_sounded _ tone)

end Sys2Proof.Machine.Engines
end

section
/-!
PROOFS. Every operation of the part keeps the order of the Engine Cache: those that reach it do so by a count that
goes up or down, by a store completion, a settle tick, a flush, the rendering of a tick or a reset
(05_the_bus_matrix.md R79, 06_wheel_engines.md 6.2 to 6.8).
-/

namespace Sys2Proof.Machine.Engines

open Sys2Proof.Machine.Requests Sys2Proof.Machine.Keys

/-- The Engine Cache of a state is in order under the demand of its busses. -/
def EnginesOrdered (s : State) : Prop := Ordered s.eng s.demanded none

namespace EnginesOrdered

variable {s t : State}

/-! ### What leaves the Engine Cache and the demand alone -/

theorem congr (h : EnginesOrdered s) (eng : t.eng = s.eng) (demand : t.bus.demand = s.bus.demand) :
    EnginesOrdered t := by
  have same : t.demanded = s.demanded := funext fun w => by rw [State.demanded, State.demanded, demand]
  rwa [EnginesOrdered, eng, same]

theorem ofFrame (h : EnginesOrdered s) {l : List Block} (f : Frame l s t) (apart : Block.eng ∉ l ∧ Block.bus ∉ l) :
    EnginesOrdered t := h.congr (f.eng apart.1) (by rw [f.bus apart.2])

/-- The Engine Cache has a new value that is in order under the same demand. -/
theorem ofEng {l : List Block} (f : Frame l s t) (bus : Block.bus ∉ l) (h : Ordered t.eng s.demanded none) :
    EnginesOrdered t := by
  have same : t.demanded = s.demanded := funext fun w => by rw [State.demanded, State.demanded, f.bus bus]
  rwa [EnginesOrdered, same]

theorem either {c : Prop} [Decidable c] (h : EnginesOrdered s) (k : EnginesOrdered t) :
    EnginesOrdered (if c then s else t) := by
  split
  · exact h
  · exact k

theorem foldl {α : Type} {f : State → α → State}
    (keep : ∀ {s : State} (a : α), EnginesOrdered s → EnginesOrdered (f s a)) (h : EnginesOrdered s) (l : List α) :
    EnginesOrdered (l.foldl f s) := List.foldlRecOn l f h fun _ k a _ => keep a k

theorem setLnk (h : EnginesOrdered s) (b : LinkUnit) : EnginesOrdered (s.setLnk b) := h.congr rfl rfl

theorem setReq (h : EnginesOrdered s) (b : RequestUnit) : EnginesOrdered (s.setReq b) := h.congr rfl rfl

theorem setFlt (h : EnginesOrdered s) (b : FaultUnit) : EnginesOrdered (s.setFlt b) := h.congr rfl rfl

theorem setOut (h : EnginesOrdered s) (b : OutputUnit) : EnginesOrdered (s.setOut b) := h.congr rfl rfl

theorem setPrc (h : EnginesOrdered s) (b : Percussion) : EnginesOrdered (s.setPrc b) := h.congr rfl rfl

theorem count (h : EnginesOrdered s) (f : Counters → Counters) : EnginesOrdered (s.count f) := h.congr rfl rfl

theorem refresh (h : EnginesOrdered s) : EnginesOrdered s.refresh := h.congr rfl rfl

theorem setRecord (h : EnginesOrdered s) (k : FaultKind) (r : FaultRecord) : EnginesOrdered (s.setRecord k r) :=
  h.congr rfl rfl

theorem startClick (h : EnginesOrdered s) (m : Manual) (positive : Bool) : EnginesOrdered (s.startClick m positive) :=
  h.congr rfl rfl

theorem setContact (h : EnginesOrdered s) (k : KeyId) (c : ContactId) (x : Contact) :
    EnginesOrdered (s.setContact k c x) := h.congr rfl rfl

theorem storeEntry (h : EnginesOrdered s) (u : TableId) (i : Nat) (ws : List Word) :
    EnginesOrdered (s.storeEntry u i ws) := h.ofFrame (s.storeEntry_frame u i ws) (by decide)

/-! ### Counts that go down, and releases (R55, R70, R77, R79) -/

theorem demanded_setCount {row : BusRow} {w : Wheel} {n d : Nat} (bus : t.bus = s.bus.setCount row w n d) :
    t.demanded = Function.update s.demanded w (d != 0) := by
  funext v
  rw [State.demanded, bus, demand_setCount]
  by_cases same : v = w
  · rw [same, if_pos rfl, Function.update_self]
  · rw [if_neg same, Function.update_of_ne same]
    rfl

theorem countDown (h : EnginesOrdered s) (row : BusRow) (w : Wheel) : EnginesOrdered (s.countDown row w) := by
  obtain ⟨zero, counts⟩ := countDown_cases s row w
  by_cases none : s.bus.countOf row w = 0
  · rwa [zero none]
  · obtain ⟨bus, eng⟩ := counts none
    rw [EnginesOrdered, demanded_setCount bus, eng]
    by_cases last : s.bus.demand[w] = 1
    · rw [if_pos last, last]
      exact h.demandDown (by rw [State.demanded, last]; rfl)
    · have same : (s.bus.demand[w] - 1 != 0) = s.demanded w := by
        rw [State.demanded, Bool.eq_iff_iff, bne_iff_ne, bne_iff_ne]
        omega
      rw [if_neg last, same, Function.update_eq_self]
      exact h

theorem applyOpen (h : EnginesOrdered s) (k : KeyId) (c : ContactId) : EnginesOrdered (s.applyOpen k c) := by
  unfold State.applyOpen
  split
  · exact h
  · exact h.setContact k c _
  · exact ((h.setContact k c _).countDown _ _).startClick _ _

theorem releaseManual (h : EnginesOrdered s) (m : Manual) : EnginesOrdered (s.releaseManual m) := by
  have begun : EnginesOrdered (withoutEntries m s) := h.ofFrame (withoutEntries_frame m s) (by decide)
  have opened : EnginesOrdered (openedManual m s) :=
    foldl (f := fun (s : State) (p : KeyId × ContactId) => s.applyOpen p.1 p.2) (fun p q => q.applyOpen p.1 p.2) begun
      (manualContacts m)
  have up : EnginesOrdered ((openedManual m s).makeUp m) := opened.ofFrame (State.makeUp_frame m _) (by decide)
  rw [releaseManual_eq]
  exact either (up.ofFrame (State.manualFullyUp_frame _) (by decide)) up

theorem release (h : EnginesOrdered s) (ms : List Manual) : EnginesOrdered (s.release ms) :=
  h.foldl (f := fun s m => s.releaseManual m) (fun m q => q.releaseManual m) ms

/-! ### Reports to the Fault Unit (R181, R182, R185) -/

theorem occur (h : EnginesOrdered s) (k : FaultKind) : EnginesOrdered (s.occur k) := by
  have signals : EnginesOrdered (withOccurrence k s).refresh := h.ofFrame (withOccurrence_refresh k s).1 (by decide)
  rcases occur_cases k s with ⟨_, _, go, _⟩ | ⟨_, go⟩ | ⟨_, go⟩
  · rwa [go]
  · rwa [go]
  · rw [go]
    exact signals.release _

theorem asEvent {f : State → State} (h : EnginesOrdered (f s)) : EnginesOrdered (s.asEvent f) :=
  h.ofFrame (asEvent_notices f s) (by decide)

theorem raiseEvent (h : EnginesOrdered s) (k : FaultKind) : EnginesOrdered (s.raiseEvent k) := by
  unfold State.raiseEvent
  exact either h (asEvent (h.occur k))

theorem conditionPresent (h : EnginesOrdered s) (k : FaultKind) : EnginesOrdered (s.conditionPresent k) := by
  have noted := h.setRecord k { s.record k with present := true }
  unfold State.conditionPresent
  exact either h (either noted (asEvent (noted.occur k)))

theorem takeForce (h : EnginesOrdered s) (a : Action) : EnginesOrdered (s.takeForce a) := by
  unfold State.takeForce
  exact either (h.refresh.release _) h.refresh

theorem reconfigureMode (h : EnginesOrdered s) (k : FaultKind) : EnginesOrdered (s.reconfigureMode k) := by
  unfold State.reconfigureMode
  dsimp only
  split
  · exact h.setRecord k _
  · exact h.setRecord k _
  · exact h.setRecord k _
  · exact h.setRecord k _
  · exact either (h.occur k) h

theorem reconfigureAction (h : EnginesOrdered s) (k : FaultKind) : EnginesOrdered (s.reconfigureAction k) := by
  unfold State.reconfigureAction
  dsimp only
  split
  · exact (h.setRecord k _).takeForce _
  · exact h

theorem reconfigure (h : EnginesOrdered s) (k : FaultKind) (w : Word) : EnginesOrdered (s.reconfigure k w) := by
  have stored : EnginesOrdered (s.setFaultEntry k w) := h.congr rfl rfl
  have mode : EnginesOrdered (if s.faultMode k = faultModeOfWord w then s.setFaultEntry k w
      else (s.setFaultEntry k w).reconfigureMode k) := either stored (stored.reconfigureMode k)
  unfold State.reconfigure
  exact (either (mode.reconfigureAction k) mode).refresh

/-! ### Contacts that close, key events (R49 to R51, R65 to R70, R77, R79) -/

theorem countUp (h : EnginesOrdered s) (row : BusRow) (w : Wheel) : EnginesOrdered (s.countUp row w) := by
  unfold State.countUp
  dsimp only
  split
  · next first =>
    have served : EnginesOrdered ((s.setBus (s.bus.setCount row w (s.bus.countOf row w + 1) (s.bus.demand[w] + 1))).setEng
        (s.eng.demandUp w).1) := by
      rw [EnginesOrdered, demanded_setCount (s := s) rfl]
      exact h.demandUp (by rw [State.demanded, first]; rfl)
    have counted := served.count (countServed (s.eng.demandUp w).2)
    unfold State.demandUp
    exact either (counted.conditionPresent _) counted
  · next more =>
    have same : (s.bus.demand[w] + 1 != 0) = s.demanded w := by
      rw [State.demanded, Bool.eq_iff_iff, bne_iff_ne, bne_iff_ne]
      omega
    rw [EnginesOrdered, demanded_setCount (s := s) rfl, same, Function.update_eq_self]
    exact h

theorem applyClose (h : EnginesOrdered s) (k : KeyId) (c : ContactId) : EnginesOrdered (s.applyClose k c) := by
  have closed : ∀ b, EnginesOrdered (s.closeOn k c b) := by
    intro b
    cases b with
    | none => exact h.setContact k c _
    | some w => exact ((h.setContact k c _).countUp _ _).startClick _ _
  unfold State.applyClose
  exact either ((closed _).setPrc _) (closed _)

theorem applyTransition (h : EnginesOrdered s) (k : KeyId) (c : ContactId) (kind : Transition) :
    EnginesOrdered (s.applyTransition k c kind) := by
  cases kind with
  | close => exact h.applyClose k c
  | open_ => exact h.applyOpen k c

theorem placeTransition {p : State × Bool} (h : EnginesOrdered p.1) (k : KeyId) (kind : Transition) (travel : Nat)
    (c : ContactId) : EnginesOrdered (placeTransition k kind travel p c).1 := by
  unfold Machine.placeTransition
  split
  · unfold placeOne
    dsimp only
    split
    · exact h.applyTransition k c kind
    · split
      · exact h.congr rfl rfl
      · exact h.applyTransition k c kind
  · exact h

theorem move (h : EnginesOrdered s) (kind : Transition) (k : KeyId) (travel : BitVec 6) :
    EnginesOrdered (s.move kind k travel) := by
  have begun : EnginesOrdered (setMoving kind k travel s) := h.ofFrame (setMoving_frame kind k travel s) (by decide)
  have made : EnginesOrdered (eventMade kind k travel s).1 :=
    List.foldlRecOn (motive := fun p : State × Bool => EnginesOrdered p.1) _ _ begun
      fun _ q c _ => q.placeTransition k kind _ c
  have collapsed : EnginesOrdered (eventCollapsed (eventMade kind k travel s)) := by
    unfold eventCollapsed
    split
    · exact (made.count _).raiseEvent _
    · exact made
  rw [move_eq]
  exact collapsed.ofFrame (State.settleKey_frame k _) (by decide)

theorem keyDownOn (h : EnginesOrdered s) (k : KeyId) (travel : BitVec 6) : EnginesOrdered (s.keyDownOn k travel) := by
  have started := h.ofFrame (s.phraseStart_frame (keyManual k)) (by decide)
  unfold State.keyDownOn
  split
  · exact h.count _
  · split
    · exact h.count _
    · exact h.count _
    · exact h.move .close k travel
    · exact either (started.move .close k travel) (h.move .close k travel)

theorem keyUpOn (h : EnginesOrdered s) (k : KeyId) (travel : BitVec 6) : EnginesOrdered (s.keyUpOn k travel) := by
  unfold State.keyUpOn
  split
  · exact h.count _
  · exact h.count _
  · exact h.move .open_ k travel

theorem keyEvent (h : EnginesOrdered s) (source : BitVec 2) (raw : BitVec 7) (down : Bool) (travel : BitVec 6) :
    EnginesOrdered (s.keyEvent source raw down travel) := by
  have stray : EnginesOrdered s.strayEvent := by
    unfold State.strayEvent
    exact either ((h.count _).raiseEvent _) (h.count _)
  unfold State.keyEvent
  split
  · split
    · exact stray
    · exact either (h.keyDownOn _ travel) (h.keyUpOn _ travel)
  · exact h.count _

theorem applyHead (h : EnginesOrdered s) : EnginesOrdered s.applyHead := by
  unfold State.applyHead
  split
  · exact h
  · next x rest _ =>
    have popped : EnginesOrdered (s.setSeq { s.seq with schedule := rest }) := h.congr rfl rfl
    exact either ((popped.applyTransition _ _ _).ofFrame (State.settleKey_frame _ _) (by decide)) h

theorem applyDue (fuel : Nat) : ∀ {s : State}, EnginesOrdered s → EnginesOrdered (State.applyDue fuel s) := by
  induction fuel with
  | zero => exact fun h => h
  | succ n ih =>
    intro s h
    unfold State.applyDue
    split
    · exact h
    · exact either (ih h.applyHead) h

theorem expireClick (h : EnginesOrdered s) : EnginesOrdered s.expireClick := by
  unfold State.expireClick
  split
  · exact h
  · exact either (h.congr rfl rfl) h

/-! ### The Engine Cache's own operations (R98, R103, R104, R107, R111) -/

theorem setEngEasing_eng (s : State) (c : EngineCache) : (s.setEngEasing c).eng = c := by
  unfold State.setEngEasing
  dsimp only
  split
  · exact (State.conditionAbsent_frame _ _).eng (by decide)
  · rfl

theorem loadTick (h : EnginesOrdered s) : EnginesOrdered s.loadTick := by
  unfold State.loadTick
  split
  · next e w rest queue =>
    refine either (ofEng (s.setEngEasing_frame _) (by decide) ?_) h
    rw [setEngEasing_eng]
    exact Ordered.loadComplete h queue
  · exact h

theorem writeBackTick (h : EnginesOrdered s) : EnginesOrdered s.writeBackTick := by
  unfold State.writeBackTick
  split
  · next e w rest queue =>
    refine either (ofFrame (ofEng (s.setEngEasing_frame _) (by decide) ?_) (State.checkFlush_frame _) (by decide)) h
    rw [setEngEasing_eng]
    exact Ordered.writeBackComplete h queue
  · exact h

theorem settleTick (h : EnginesOrdered s) (e : EngineId) : EnginesOrdered (s.settleTick e) :=
  ofEng (s.settleTick_frame e) (by decide) (Ordered.settleTick h e)

theorem flushBegun (h : EnginesOrdered s) : EnginesOrdered (flushBegun s) :=
  ofEng (flushBegun_frame s) (by decide) (by rw [flushBegun_eng]; exact Ordered.flush h)

theorem formAudio (h : EnginesOrdered s) : EnginesOrdered s.formAudio.1 := by
  have rendered : EnginesOrdered (s.setEng s.renderEngines.cache) :=
    ofEng (l := [.eng]) (Frame.setEng (by decide) s _) (by decide) (by rw [State.setEng_eng]; exact Ordered.render h)
  exact rendered.ofFrame ((Frame.setPrc (by decide) _ _).trans (Frame.setRot (by decide) _ _)) (l := [.prc, .rot])
    (by decide)

theorem beginTick (h : EnginesOrdered s) : EnginesOrdered s.beginTick :=
  Ordered.retune h fun e => by
    have same : (s.eng.engines.map Engine.newTick)[e] = Engine.newTick s.eng.engines[e] := Vector.getElem_map _ _
    rw [same]
    exact ⟨rfl, rfl, rfl, fun _ => rfl, fun small => ⟨small, fun _ => rfl⟩⟩

/-- Without demand the full-reset Engine Cache is in order, whatever its wrap count (R116, R117). -/
theorem ofReset {wrap : BitVec 8} (eng : s.eng = { EngineCache.reset with wrap := wrap }) (bus : s.bus = BusMatrix.reset) :
    EnginesOrdered s := by
  have base : EnginesOrdered State.reset :=
    (ordered_iff _).mpr ⟨listed_reset, fun h => absurd rfl h, enginesBound_reset rfl keysReset_reset.demand⟩
  have wrapped : Ordered { EngineCache.reset with wrap := wrap } State.reset.demanded none :=
    Ordered.retune (l := EngineCache.reset.engines) base fun _ => .refl _
  have same : s.demanded = State.reset.demanded := funext fun w => by
    rw [State.demanded, State.demanded, bus, keysReset_reset.bus]
  rwa [EnginesOrdered, eng, same]

/-! ### Written and restored entries (R32, R40, R41) -/

theorem writeEntry (h : EnginesOrdered s) (u : TableId) (i : Nat) (ws : List Word) :
    EnginesOrdered (s.writeEntry u i ws) := by
  unfold State.writeEntry
  split
  · exact h.reconfigure _ _
  · exact either ((h.storeEntry _ _ _).ofFrame (State.silenceWritten_frame _) (by decide))
      (either ((h.storeEntry _ _ _).ofFrame (State.enableWritten_frame _ _) (by decide)) (h.storeEntry _ _ _))
  · exact either ((h.ofFrame s.retryTicks_frame (by decide)).storeEntry _ _ _) (h.storeEntry _ _ _)
  · dsimp only
    split
    · exact (h.storeEntry _ _ _).ofFrame (State.retarget_frame _ _) (by decide)
    · exact h.storeEntry _ _ _
  · exact either ((h.storeEntry _ _ _).ofFrame (State.modeWritten_frame _ _ _) (by decide)) (h.storeEntry _ _ _)
  · exact h.storeEntry _ _ _

theorem writeList (h : EnginesOrdered s) (u : TableId) (es : List (Nat × List Word)) :
    EnginesOrdered (s.writeList u es) := h.foldl (fun e q => q.writeEntry u e.1 e.2) es

theorem writeEntries (h : EnginesOrdered s) (u : TableId) (es : List (Nat × List Word)) :
    EnginesOrdered (s.writeEntries u es) := by
  unfold State.writeEntries
  split
  · exact asEvent (h.writeList _ es)
  · exact (h.writeList _ es).ofFrame (State.checkNotice_frame _) (by decide)
  · exact h.writeList _ es

theorem restoreTick (h : EnginesOrdered s) : EnginesOrdered s.restoreTick := by
  unfold State.restoreTick
  split
  · exact h
  · dsimp only
    split
    · exact h
    · split <;> exact (h.writeEntries _ _).setReq _

/-! ### Resets and the end of INITIALIZING (R26, R41, R42, R191) -/

theorem initTick (h : EnginesOrdered s) : EnginesOrdered s.initTick := by
  have started : EnginesOrdered (factoryStarted s) := h.ofFrame (factoryStarted_frame s) (by decide)
  have raised : EnginesOrdered (factoryStarted s).raiseAllPresent := by
    refine started.foldl (fun k q => ?_) _
    unfold State.raisePresent
    exact either (asEvent (q.occur k)) q
  unfold State.initTick
  exact either (either (raised.ofFrame (State.countChange_frame _) (by decide)) (h.setReq _)) h

theorem softReset (s : State) : EnginesOrdered s.softReset := by
  have blocks : ∀ t : State, EnginesOrdered t.softResetBlocks := fun t => ofReset (wrap := t.eng.wrap) rfl rfl
  have reraised : ∀ {t : State} (k : FaultKind) (present : Bool), EnginesOrdered t → EnginesOrdered (t.reraise k present) :=
    fun k present q => by
      unfold State.reraise
      exact either ((q.setRecord k _).occur k) q
  have cleared : ∀ {t : State}, EnginesOrdered t → EnginesOrdered t.softResetFaults := fun q =>
    (reraised _ _ (reraised _ _ (q.setFlt _).refresh)).setFlt _
  exact (cleared (blocks _)).congr rfl rfl

theorem fullReset (cause : ResetCause) (s : State) : EnginesOrdered (s.fullReset cause) :=
  ofReset (wrap := 0) rfl rfl

/-! ### Control moves (R118, R119) -/

theorem controlAccepted (h : EnginesOrdered s) (id value : Nat) : EnginesOrdered (s.controlAccepted id value) := by
  unfold State.controlAccepted
  split
  · split
    · exact h.ofFrame (s.moveDrawbar_frame _ _ _) (by decide)
    · exact h
  · split
    · exact h.congr rfl rfl
    · exact h.setPrc _
    · exact h.setPrc _
    · exact h.setPrc _
    · exact h.setPrc _
    · exact h.setPrc _
    · exact h.setPrc _
    · exact h.setPrc _
    · exact h.ofFrame (s.moveSelector_frame _) (by decide)
    · exact h.ofFrame (s.moveBrake_frame _) (by decide)
    · exact h.release _
    · exact h

theorem controlMove (h : EnginesOrdered s) (id value : Nat) : EnginesOrdered (s.controlMove id value) := by
  unfold State.controlMove
  exact either h (either (h.controlAccepted id value) (h.count _))

/-! ### Requests (R28, R31 to R41) -/

theorem answer (h : EnginesOrdered s) (head : Head) (echo : Nat) {act : State → Answer}
    (keep : ∀ {t : State}, EnginesOrdered t → EnginesOrdered (act t).state) :
    EnginesOrdered (s.answer head echo (whenReady act)) := by
  have ready : ∀ {t : State}, EnginesOrdered t → EnginesOrdered (whenReady act t).state := fun {t} q => by
    unfold whenReady
    split
    · exact q
    · exact keep q
  unfold State.answer
  split
  · exact ready h
  · exact either (h.count _) ((ready (h.setLnk _)).setLnk _)

theorem takeWrite (h : EnginesOrdered s) (head : Head) (payload : List Word) :
    EnginesOrdered (s.takeWrite head payload) := by
  refine h.answer head _ fun q => ?_
  unfold actWrite
  split
  · exact q
  · split
    · exact q
    · split
      · exact q.writeEntries _ _
      · exact q

theorem changeOpState (h : EnginesOrdered s) (o : OpState) : EnginesOrdered (s.changeOpState o) :=
  asEvent (f := fun s => (s.setReq { s.req with opState := o }).refresh) (h.setReq _).refresh

/-- A command that is refused, or whose action keeps the order. -/
theorem unlessRefused {c : Prop} [Decidable c] {status : Status} {a : Answer} (h : EnginesOrdered s)
    (k : EnginesOrdered a.state) : EnginesOrdered (if c then refused status s else a).state := by
  split
  · exact h
  · exact k

theorem commandAction (h : EnginesOrdered s) {code : Nat} {act : Nat → List Word → State → Answer}
    (e : commandAction code = some act) (arg : Nat) (rest : List Word) : EnginesOrdered (act arg rest s).state := by
  unfold Machine.commandAction at e
  split at e <;> cases e
  · unfold actPlay
    refine h.unlessRefused ?_
    split
    · exact h
    · exact h.unlessRefused (h.changeOpState _)
  · unfold actStandby
    refine h.unlessRefused ?_
    split
    · rw [answered_state]
      exact (h.release _).changeOpState _
    · exact h
  · unfold actAllKeysUp
    split
    · rw [answered_state]
      exact h.release _
    · exact h
  · unfold actClearFaults
    refine h.unlessRefused ?_
    rw [answered_state]
    exact h.ofFrame s.clearFaults_frame (by decide)
  · unfold actSelectPreset
    refine h.unlessRefused ?_
    split
    · rw [answered_state]
      exact h.ofFrame (s.selectNow_frame _ _) (by decide)
    · rw [answered_state]
      exact h.ofFrame (s.selectGlide_frame _ _) (by decide)
    · rw [answered_state]
      exact h.ofFrame (s.selectNextPlay_frame _ _) (by decide)
    · exact h
  · unfold actFlush
    exact h.unlessRefused (h.unlessRefused h.flushBegun)
  · unfold actRestore
    refine h.unlessRefused ?_
    split
    · exact h
    · exact h.unlessRefused (h.unlessRefused (h.setReq _))
  · unfold actClearCounters
    exact h.unlessRefused (h.count fun _ => Counters.zero)
  · unfold actSoftReset
    exact h.unlessRefused h

theorem takeCommand (h : EnginesOrdered s) (head : Head) (payload : List Word) :
    EnginesOrdered (s.takeCommand head payload) := by
  have answered : EnginesOrdered (s.answer head (requestHigh payload) (whenReady (actCommand payload))) := by
    refine h.answer head _ fun q => q.unlessRefused ?_
    split
    · exact q
    · next act e => exact q.unlessRefused (q.commandAction e _ _)
  unfold State.takeCommand
  exact either (softReset _) answered

/-! ### Link words (R1 to R16) -/

theorem dispatch (h : EnginesOrdered s) (header : Word) (payload : List Word) :
    EnginesOrdered (s.dispatch header payload) := by
  unfold State.dispatch
  dsimp only
  split
  · exact h.foldl (f := State.keyWord) (fun _ q => q.keyEvent _ _ _ _) payload
  · exact h.foldl (f := State.controlWord) (fun _ q => q.controlMove _ _) payload
  · exact h.takeWrite _ _
  · exact h.ofFrame (s.takeRead_frame _ _) (by decide)
  · exact h.takeCommand _ _
  · exact h.ofFrame (s.takeUnknown_frame _ _) (by decide)

theorem checkDrop (h : EnginesOrdered s) (a : Assembly) : EnginesOrdered (s.checkDrop a) := by
  have closed : EnginesOrdered (s.closeAssembly a false) := h.setLnk _
  unfold State.checkDrop
  exact either closed ((closed.count _).raiseEvent _)

theorem shortFrame (h : EnginesOrdered s) (a : Assembly) : EnginesOrdered (s.shortFrame a) := by
  have closed : EnginesOrdered (s.closeAssembly a false) := h.setLnk _
  unfold State.shortFrame
  exact either closed (closed.count _)

theorem goodFrame (h : EnginesOrdered s) (a : Assembly) : EnginesOrdered (s.goodFrame a) := by
  have counted : EnginesOrdered ((s.closeAssembly a true).count fun c => { c with goodFrames := c.goodFrames + 1 }) :=
    (h.setLnk _).count _
  have taken : ∀ {t : State}, EnginesOrdered t → EnginesOrdered t.frameTaken := fun q => by
    unfold State.frameTaken
    exact (either q (q.setFlt _)).ofFrame (State.conditionAbsent_frame _ _) (by decide)
  unfold State.goodFrame
  exact either ((taken counted).dispatch _ _) counted

theorem addWord (h : EnginesOrdered s) (a : Assembly) (w : Word) (bad : Bool) : EnginesOrdered (s.addWord a w bad) := by
  have received : EnginesOrdered (if a.forwarding = .admitted then
      s.setLnk { s.lnk with forward := receiveWord s.lnk.forward w } else s) := either (h.setLnk _) h
  unfold State.addWord State.endFrame
  exact either (either (received.checkDrop _) (received.goodFrame _)) (received.setLnk _)

theorem markerWord (h : EnginesOrdered s) (w : Word) : EnginesOrdered (s.markerWord w) := by
  have noted : EnginesOrdered (s.setLnk { s.lnk with sinceLock := false }) := h.setLnk _
  unfold State.markerWord State.openFrame
  exact either noted (EnginesOrdered.setLnk (either (noted.count _) noted) _)

theorem goodLinkedWord (h : EnginesOrdered s) (w : LinkWord) : EnginesOrdered (s.goodLinkedWord w) := by
  have heard : EnginesOrdered (s.setLnk { s.lnk with loss := 0, quiet := Timer.start }) := h.setLnk _
  unfold State.goodLinkedWord
  dsimp only
  split
  · split
    · exact heard.markerWord _
    · exact either heard (heard.count _)
  · exact either (markerWord (either (heard.checkDrop _) (heard.shortFrame _)) _) (heard.addWord _ _ _)

theorem badLinkedWord (h : EnginesOrdered s) (w : LinkWord) : EnginesOrdered (s.badLinkedWord w) := by
  have counted : EnginesOrdered (s.setLnk { s.lnk with loss := s.lnk.loss + 1 }) := h.setLnk _
  have mayLose : ∀ {t : State}, EnginesOrdered t → EnginesOrdered (if 64 ≤ t.lnk.loss then t.lose else t) :=
    fun {t} q => either (q.ofFrame t.lose_frame (by decide)) q
  unfold State.badLinkedWord
  refine mayLose ?_
  split
  · exact counted
  · exact counted.addWord _ _ _

theorem linkWordIn (h : EnginesOrdered s) (w : LinkWord) : EnginesOrdered (s.linkWordIn w) := by
  unfold State.linkWordIn State.searchingWord
  exact either (either (h.goodLinkedWord w) (h.badLinkedWord w))
    (either (either ((h.setLnk _).ofFrame (State.lock_frame _) (by decide)) (h.setLnk _)) (h.setLnk _))

/-! ### The processes of a tick (R172) -/

theorem windowTick (h : EnginesOrdered s) : EnginesOrdered s.windowTick := by
  unfold State.windowTick
  exact either (either (h.setLnk _) (either (h.setLnk _) ((h.setLnk _).conditionPresent _))) h

theorem silenceTick (h : EnginesOrdered s) : EnginesOrdered s.silenceTick := by
  unfold State.silenceTick
  dsimp only
  split
  · split
    · exact either ((h.setFlt _).conditionPresent _) (h.setFlt _)
    · exact h.setFlt _
  · exact h

theorem tickProcesses (h : EnginesOrdered s) : EnginesOrdered s.tickProcesses := by
  have link : EnginesOrdered s.tickLinkAndTables :=
    (windowTick (h.initTick.ofFrame (State.quietTick_frame _) (by decide))).restoreTick
  have engines : EnginesOrdered s.tickLinkAndTables.tickContactsAndEngines :=
    (link.applyDue _).loadTick.writeBackTick.foldl (f := fun s e => s.settleTick e) (fun e q => q.settleTick e) _
  have clicks := engines.foldl (f := fun s _ => s.expireClick) (fun _ q => q.expireClick)
    (List.range s.tickLinkAndTables.tickContactsAndEngines.bus.clicks.length)
  have sound : EnginesOrdered s.tickLinkAndTables.tickContactsAndEngines.tickSound :=
    clicks.ofFrame (((State.glideTicks_frame _).mono (by decide)).trans (((State.halvingTick_frame _).mono (by decide)).trans
      (((State.rotorTick_frame .horn _).trans (State.rotorTick_frame .drum _)).mono (by decide))))
      (l := [.reg, .prc, .rot]) (by decide)
  exact sound.silenceTick.ofFrame (((State.retryTicks_frame _).mono (by decide)).trans
    (((State.noticeTick_frame _).mono (by decide)).trans (((State.waitingNotice_frame _).mono (by decide)).trans
      ((State.cascadeMissing_frame _).mono (by decide))))) (l := [.replies, .hold, .mute, .flt, .out]) (by decide)

theorem stepLimiter (h : EnginesOrdered s) (x : Sample) (o : OutputId) : EnginesOrdered (s.stepLimiter x o) := by
  unfold State.stepLimiter
  exact either (asEvent ((h.setOut _).count _ |>.occur _).refresh) (h.setOut _)

theorem outputStage (h : EnginesOrdered s) : EnginesOrdered s.outputStage := by
  unfold State.outputStage
  exact either h ((h.formAudio.setOut _).foldl (fun o q => q.stepLimiter _ o) _ |>.setOut _)

theorem finishTick (h : EnginesOrdered s) : EnginesOrdered s.finishTick := h.tickProcesses.outputStage

theorem giveTick (h : EnginesOrdered s) : EnginesOrdered s.giveTick := h.finishTick.beginTick

/-! ### The clock monitor (R167) -/

theorem clockEdge (h : EnginesOrdered s) (period : Option Rat) : EnginesOrdered (s.clockEdge period) := by
  have heard : EnginesOrdered (s.setOut { s.out with edgeSeen := true, quietPeriods := 0 }) := h.setOut _
  unfold State.clockEdge
  split
  · unfold State.externalEdge
    split
    · exact h.giveTick.setOut _
    · exact (h.setOut _).conditionPresent _
    · exact h
  · unfold State.internalEdge
    dsimp only
    split
    · exact either (heard.setOut _) (heard.giveTick.ofFrame (State.returnExternal_frame _) (by decide))
    · exact heard.setOut _
  · exact h
  · exact heard

theorem missEdge (h : EnginesOrdered s) : EnginesOrdered s.missEdge := by
  unfold State.missEdge
  exact either (either (((h.giveTick.setOut _).setOut _).conditionPresent _) (h.giveTick.setOut _)) h

theorem oscillatorTick (h : EnginesOrdered s) : EnginesOrdered s.oscillatorTick := by
  unfold State.oscillatorTick
  exact either (h.giveTick.setOut _) h

/-! ### Every command, and the step -/

theorem running {f : State → State} (e : whenRunning f s = .next t) (h : EnginesOrdered s)
    (keep : EnginesOrdered s → EnginesOrdered (f s)) : EnginesOrdered t := by
  cases e
  exact either h (keep h)

theorem exec {c : Instr} (h : EnginesOrdered s) (e : exec c s = .next t) : EnginesOrdered t := by
  cases c with
  | powerOn | resetPin => cases e; exact fullReset _ s
  | resetRelease strap => cases e; exact either (h.ofFrame (s.releaseReset_frame strap) (by decide)) h
  | initializationDone => exact running e h initTick
  | linkWord => exact running e h (linkWordIn · _)
  | quietTimerExpiry => exact running e h (ofFrame · s.quietTick_frame (by decide))
  | searchWindowEnd => exact running e h windowTick
  | transmitterFree => exact running (f := fun s => s.setLnk s.lnk.transmitterFree) e h (setLnk · _)
  | unknownKind => exact running e h (ofFrame · (s.takeUnknown_frame _ _) (by decide))
  | write | writeKeyMap | writeWheelPitch | writeFaultConfiguration | writeStationNumber | writeSilenceWindow
  | writeNoticeSettings | writeRotorSettings | writeOutputSettings => exact running e h (takeWrite · _ _)
  | read => exact running e h (ofFrame · (s.takeRead_frame _ _) (by decide))
  | play | standby | allKeysUp | clearFaults | selectPresetNow | selectPresetGlide | selectPresetNextPlay
  | flushEngines | restoreFactory | clearCounters | softReset => exact running e h (takeCommand · _ _)
  | restoreStep => exact running e h restoreTick
  | keyDown | keyUp => exact running e h (keyEvent · _ _ _ _)
  | scheduleEntryDue => exact running e h applyHead
  | clickPulseExpiry => exact running e h expireClick
  | loadComplete => exact running e h loadTick
  | writeBackComplete => exact running e h writeBackTick
  | settleDone => exact running e h (settleTick · _)
  | controlError | drawbarMove | expressionMove | percussionEnable | percussionSwitch | scannerMove | rotorSelect
  | rotorBrake | controlRelease => exact running e h (controlMove · _ _)
  | glideStep => exact running e h (ofFrame · (s.glideTick_frame _) (by decide))
  | halving => exact running e h (ofFrame · s.halvingTick_frame (by decide))
  | boundaryStep =>
    exact running (f := fun s => (s.rotorTick .horn).rotorTick .drum) e h
      (ofFrame · ((s.rotorTick_frame _).trans (State.rotorTick_frame _ _)) (by decide))
  | parkingCheck => exact running e h (ofFrame · (s.rotorTick_frame _) (by decide))
  | wclkEdge => exact running e h (clockEdge · _)
  | missingEdge => exact running e h missEdge
  | cascadeSample frame => exact running (f := fun s => s.setOut (s.out.cascade frame)) e h (setOut · _)
  | episodeStart => exact running (f := State.finishTick) e h finishTick
  | episodeEnd => exact running (f := fun s => s.tickProcesses.outputStage) e h finishTick
  | retryExpiry => exact running e h (ofFrame · (s.retryTick_frame _) (by decide))
  | consoleSilenceExpiry => exact running e h silenceTick
  | noticeTimeExpiry => exact running e h (ofFrame · s.noticeTick_frame (by decide))
  | noticeWaitingQueued => exact running e h (ofFrame · s.waitingNotice_frame (by decide))
  | internalOscillatorTick => exact running e h oscillatorTick

/-- Every step keeps the order: a command at the front of the queue, or LINK_OUT sending a word. -/
theorem step (h : EnginesOrdered s) (e : step s = .next t) : EnginesOrdered t := by
  unfold Machine.step at e
  split at e
  · cases e
    exact either h (h.setLnk _)
  · have waiting : ∀ q, EnginesOrdered (s.setPending q) := fun q => h.congr rfl rfl
    exact (waiting _).exec e

end EnginesOrdered

/-- Settles O56: the three laws say together that the Engine Cache is in order, which every step keeps. -/
theorem stepKeepsEngineLists : Obligations.StepKeepsEngineLists := fun s t listed waits bound e =>
  (ordered_iff t).mp (EnginesOrdered.step ((ordered_iff s).mpr ⟨listed, waits, bound⟩) e)

end Sys2Proof.Machine.Engines
end

section
/-!
PROOFS. The statement on the completions of the head store request (06_wheel_engines.md R98, R99, R103, R104,
R110, R112).
-/

namespace Sys2Proof.Machine.Engines

open Sys2Proof.Machine.Requests Sys2Proof.Machine.Keys

variable {c : EngineCache} {e : EngineId} {w : Wheel}

/-! ### An engine that begins to load -/

theorem bindWheel_tone (c : EngineCache) (v w : Wheel) (b : Option EngineId) :
    ((c.bindWheel v b).store[w]).tone = (c.store[w]).tone := by
  unfold EngineCache.bindWheel
  by_cases same : w = v
  · subst same
    simp
  · have ne : (v : Nat) ≠ w := fun h => same (Fin.ext h.symm)
    simp [Vector.getElem_set_ne, ne]

theorem setEngine_setEngine (c : EngineCache) (e : EngineId) (r q : Engine) :
    (c.setEngine e r).setEngine e q = c.setEngine e q := by
  simp [EngineCache.setEngine]

/-- From c to d engine e has begun to load wheel w: it is bound to it, and its LOAD is queued (R98). -/
structure LoadStarted (e : EngineId) (w : Wheel) (c d : EngineCache) : Prop where
  engine : d.engines[e] = loadingRecord c.engines[e] w
  others : ∀ i : EngineId, i ≠ e → d.engines[i] = c.engines[i]
  lists : d.free = c.free ∧ d.lru = c.lru ∧ d.starved = c.starved
  queue : d.queue = c.queue ++ [⟨e, .load, w⟩]
  ready : c.storeReady = false → d.storeReady = false
  bound : (d.store[w]).bound = some e
  unmoved : ∀ v : Wheel, v ≠ w → (d.store[v]).bound = (c.store[v]).bound
  tone : ∀ v : Wheel, (d.store[v]).tone = (c.store[v]).tone

theorem startLoad_started (c : EngineCache) (e : EngineId) (w : Wheel) : LoadStarted e w c (c.startLoad e w) where
  engine := setEngine_self c e _
  others := fun _ ne => setEngine_other c _ ne
  lists := ⟨rfl, rfl, rfl⟩
  queue := rfl
  ready := fun waits => by
    unfold EngineCache.startLoad EngineCache.enqueue EngineCache.bindWheel EngineCache.setEngine
    dsimp only
    rw [waits, Bool.false_and]
  bound := (bindWheel_bound _ _ _ _).trans (if_pos rfl)
  unmoved := fun v ne => (bindWheel_bound _ _ _ _).trans (if_neg ne)
  tone := fun _ => bindWheel_tone _ _ _ _

/-! ### What a completed LOAD comes to (R103) -/

/-- The record of an engine that has loaded a wheel's tone state (R103). -/
abbrev loadedRecord (c : EngineCache) (e : EngineId) (w : Wheel) : Engine :=
  { c.engines[e] with tone := (c.store[w]).tone, dirty := false }

theorem loadComplete_demanded (c : EngineCache) (e : EngineId) (w : Wheel) : c.loadComplete e w true
    = c.popRequest.setEngine e { loadedRecord c e w with state := .active } := by
  unfold EngineCache.loadComplete
  dsimp only
  rw [if_pos rfl, setEngine_self, setEngine_setEngine]

theorem loadComplete_idles (enough : c.starved = []) : c.loadComplete e w false
    = { c.popRequest.setEngine e { loadedRecord c e w with state := .idle, settle := 0, ticked := true } with
        lru := e :: c.lru } := by
  unfold EngineCache.loadComplete
  dsimp only
  rw [if_neg Bool.false_ne_true]
  refine (wouldIdle_idles (c := c.popRequest.setEngine e (loadedRecord c e w)) e w enough).trans ?_
  rw [setEngine_self, setEngine_setEngine]
  rfl

theorem loadComplete_handsOver {n : Wheel} {more : List Wheel} (starved : c.starved = n :: more) :
    c.loadComplete e w false = (({ c.popRequest.setEngine e (loadedRecord c e w) with starved := more } :
      EngineCache).bindWheel w none).startLoad e n := by
  unfold EngineCache.loadComplete
  dsimp only
  rw [if_neg Bool.false_ne_true]
  refine (wouldIdle_handsOver (c := c.popRequest.setEngine e (loadedRecord c e w)) w starved).trans ?_
  rw [setEngine_self]
  exact if_neg Bool.false_ne_true

/-- What every completed LOAD does: the engine takes the wheel's tone state and is clean (R103). -/
structure Loaded (e : EngineId) (w : Wheel) (c d : EngineCache) : Prop where
  ready : d.storeReady = false
  tone : (d.engines[e]).tone = (c.store[w]).tone
  dirty : (d.engines[e]).dirty = false
  others : ∀ i : EngineId, i ≠ e → d.engines[i] = c.engines[i]
  free : d.free = c.free

theorem loadComplete_loaded (c : EngineCache) (e : EngineId) (w : Wheel) (b : Bool) :
    Loaded e w c (c.loadComplete e w b) := by
  have set : ∀ (r : Engine), r.tone = (c.store[w]).tone → r.dirty = false → ∀ l,
      Loaded e w c { c.popRequest.setEngine e r with lru := l } := fun r tone dirty l =>
    ⟨rfl, (congrArg Engine.tone (setEngine_self _ e r)).trans tone,
      (congrArg Engine.dirty (setEngine_self _ e r)).trans dirty, fun _ ne => setEngine_other _ r ne, rfl⟩
  cases b with
  | true =>
    rw [loadComplete_demanded]
    exact set _ rfl rfl c.lru
  | false =>
    cases starved : c.starved with
    | nil =>
      rw [loadComplete_idles starved]
      exact set _ rfl rfl _
    | cons n more =>
      rw [loadComplete_handsOver starved]
      have x := startLoad_started (({ c.popRequest.setEngine e (loadedRecord c e w) with starved := more } :
        EngineCache).bindWheel w none) e n
      have own : (c.popRequest.setEngine e (loadedRecord c e w)).engines[e] = loadedRecord c e w := setEngine_self ..
      refine ⟨x.ready rfl, ?_, ?_, fun i ne => (x.others i ne).trans (setEngine_other _ _ ne), x.lists.1⟩
      · exact (congrArg Engine.tone x.engine).trans (congrArg Engine.tone own)
      · exact (congrArg Engine.dirty x.engine).trans (congrArg Engine.dirty own)

/-- A LOAD that completes starves no wheel. -/
theorem loadComplete_starved (c : EngineCache) (e : EngineId) (w : Wheel) (b : Bool) (enough : c.starved = []) :
    (c.loadComplete e w b).starved = [] := by
  cases b with
  | false => rw [loadComplete_idles enough]; exact enough
  | true => rw [loadComplete_demanded]; exact enough

/-- The head LOAD completes (R103). -/
theorem loadTick_completes {s : State} {rest : List StoreRequest} (queue : s.eng.queue = ⟨e, .load, w⟩ :: rest)
    (ready : s.eng.storeReady = true) :
    s.loadTick.eng = s.eng.loadComplete e w (s.demanded w) ∧ ShortageEases s s.loadTick := by
  have go : s.loadTick = s.setEngEasing (s.eng.loadComplete e w (s.demanded w)) := by
    unfold State.loadTick
    rw [queue]
    exact if_pos ready
  rw [go]
  exact ⟨EnginesOrdered.setEngEasing_eng _ _, (setEngEasing_eases _ _ (loadComplete_starved _ _ _ _)).shortage⟩

/-! ### What a completed WRITE_BACK comes to (R104, R112) -/

/-- From c to d engine e, in hand and bound to no wheel, has become FREE at the tail of the Free List or has been
handed over to the first starved wheel (R99, R104). -/
structure Freed (e : EngineId) (c d : EngineCache) : Prop where
  others : ∀ i : EngineId, i ≠ e → d.engines[i] = c.engines[i]
  lru : d.lru = c.lru
  tone : ∀ v : Wheel, (d.store[v]).tone = (c.store[v]).tone
  ready : c.storeReady = false → d.storeReady = false
  frees : c.starved = [] → (d.engines[e]).state = .free ∧ (d.engines[e]).wheel = none ∧
    (d.engines[e]).dirty = false ∧ d.free = c.free ++ [e] ∧ d.queue = c.queue ∧ d.starved = []
  handsOver : ∀ n more, c.starved = n :: more → (d.engines[e]).state = .loading ∧ (d.engines[e]).wheel = some n ∧
    (d.engines[e]).dirty = false ∧ d.starved = more ∧ d.free = c.free ∧ d.queue = c.queue ++ [⟨e, .load, n⟩] ∧
    (d.store[n]).bound = some e

theorem wouldFree_freed (c : EngineCache) (e : EngineId) : Freed e c (c.wouldFree e) := by
  cases starved : c.starved with
  | nil =>
    have go : c.wouldFree e = c.freeEngine e := by rw [EngineCache.wouldFree, starved]
    rw [go]
    have own : (c.freeEngine e).engines[e] = { c.engines[e] with
        state := .free, wheel := none, dirty := false, settle := 0, next := none } := setEngine_self c e _
    refine ⟨fun i ne => setEngine_other c _ ne, rfl, fun _ => rfl, id, fun _ => ?_, fun n more h => ?_⟩
    · rw [own]
      exact ⟨rfl, rfl, rfl, rfl, rfl, starved⟩
    · rw [starved] at h
      cases h
  | cons n more =>
    have go : c.wouldFree e = (({ c with starved := more } : EngineCache).setEngine e
        { c.engines[e] with dirty := false }).startLoad e n := by
      rw [EngineCache.wouldFree, starved]
    have x := startLoad_started (({ c with starved := more } : EngineCache).setEngine e
      { c.engines[e] with dirty := false }) e n
    rw [← go] at x
    obtain ⟨free, lru, hungry⟩ := x.lists
    refine ⟨fun i ne => (x.others i ne).trans (setEngine_other _ _ ne), lru, x.tone, x.ready, fun h => ?_,
      fun n' more' h => ?_⟩
    · rw [starved] at h
      cases h
    · rw [starved] at h
      cases h
      rw [x.engine, setEngine_self]
      exact ⟨rfl, rfl, rfl, hungry, free, x.queue, x.bound⟩

/-- The cache with its head WRITE_BACK gone, the tone state stored and the engine without its wheel (R104). -/
def writtenBack (c : EngineCache) (e : EngineId) (v : Wheel) : EngineCache :=
  (c.popRequest.storeTone v (c.engines[e]).tone).setEngine e { c.engines[e] with wheel := none }

theorem writtenBack_tone (c : EngineCache) (e : EngineId) (v : Wheel) :
    ((writtenBack c e v).store[v]).tone = (c.engines[e]).tone := by
  refine (congrArg WheelRecord.tone (Busses.storeTone_store c.popRequest v v _)).trans ?_
  rw [if_pos rfl]

theorem writeBackComplete_loads {v n : Wheel} {demanded : Wheel → Bool} (next : (c.engines[e]).next = some n)
    (wanted : demanded n = true) : c.writeBackComplete e v demanded = (writtenBack c e v).startLoad e n := by
  unfold EngineCache.writeBackComplete
  dsimp only
  split
  · next none => cases none.symm.trans next
  · next n' same =>
    cases Option.some.inj (next.symm.trans same)
    exact if_pos wanted

/-- A WRITE_BACK without a demanded next wheel: its engine would become FREE. -/
theorem writeBackComplete_frees {v : Wheel} {demanded : Wheel → Bool}
    (unwanted : ∀ n, (c.engines[e]).next = some n → demanded n = false) :
    ∃ d, d.engines = (writtenBack c e v).engines ∧ d.free = c.free ∧ d.lru = c.lru ∧ d.starved = c.starved ∧
      d.queue = c.queue.tail ∧ d.storeReady = false ∧ (∀ x : Wheel, (d.store[x]).tone = ((writtenBack c e v).store[x]).tone) ∧
      Freed e d (c.writeBackComplete e v demanded) := by
  unfold EngineCache.writeBackComplete
  dsimp only
  split
  · exact ⟨writtenBack c e v, rfl, rfl, rfl, rfl, rfl, rfl, fun _ => rfl, wouldFree_freed _ e⟩
  · next n next =>
    rw [if_neg (Bool.eq_false_iff.mp (unwanted n next))]
    exact ⟨(writtenBack c e v).bindWheel n none, rfl, rfl, rfl, rfl, rfl, rfl, fun _ => bindWheel_tone _ _ _ _,
      wouldFree_freed _ e⟩

/-- A WRITE_BACK that completes starves no wheel. -/
theorem writeBackComplete_starved (c : EngineCache) (e : EngineId) (v : Wheel) (demanded : Wheel → Bool)
    (enough : c.starved = []) : (c.writeBackComplete e v demanded).starved = [] := by
  by_cases wanted : ∃ n, (c.engines[e]).next = some n ∧ demanded n = true
  · obtain ⟨n, next, demand⟩ := wanted
    rw [writeBackComplete_loads next demand]
    exact (startLoad_started _ e n).lists.2.2.trans enough
  · obtain ⟨d, _, _, _, starved, _, _, _, freed⟩ := writeBackComplete_frees (v := v) (demanded := demanded)
      fun n next => Bool.eq_false_iff.mpr fun demand => wanted ⟨n, next, demand⟩
    obtain ⟨_, _, _, _, _, nil⟩ := freed.frees (starved.trans enough)
    exact nil

/-- The head WRITE_BACK completes, and with it a flush that has no other under way (R104, R112). -/
theorem writeBackTick_completes {s : State} {rest : List StoreRequest}
    (queue : s.eng.queue = ⟨e, .writeBack, w⟩ :: rest) (ready : s.eng.storeReady = true) :
    s.writeBackTick.eng = s.eng.writeBackComplete e w s.demanded ∧ ShortageEases s s.writeBackTick ∧
      s.writeBackTick.req = if s.req.inFlight = some .flushEngines ∧ s.writeBackTick.eng.flushing = false then
        { s.req with inFlight := none, lastResult := .done } else s.req := by
  have go : s.writeBackTick = (s.setEngEasing (s.eng.writeBackComplete e w s.demanded)).checkFlush := by
    unfold State.writeBackTick
    rw [queue]
    exact if_pos ready
  have eng : (s.setEngEasing (s.eng.writeBackComplete e w s.demanded)).eng = s.eng.writeBackComplete e w s.demanded :=
    EnginesOrdered.setEngEasing_eng _ _
  have req : (s.setEngEasing (s.eng.writeBackComplete e w s.demanded)).req = s.req :=
    (s.setEngEasing_frame _).req (by decide)
  have checked := State.checkFlush_frame (s.setEngEasing (s.eng.writeBackComplete e w s.demanded))
  have eased := setEngEasing_eases s _ (writeBackComplete_starved s.eng e w s.demanded)
  rw [go, checked.eng (by decide), eng]
  refine ⟨rfl, (eased.trans (.of_frame checked (by decide) (by decide) (by decide))).shortage, ?_⟩
  unfold State.checkFlush
  rw [req, eng]
  split
  · rfl
  · exact req

/-! ### Ticks at which no request completes -/

theorem loadTick_idle {s : State} (waits : s.eng.storeReady = false ∨
    ∀ q rest, s.eng.queue = q :: rest → q.kind = .writeBack) : s.loadTick = s := by
  unfold State.loadTick
  split
  · next e w rest queue =>
    refine if_neg fun ready => ?_
    rcases waits with busy | other
    · rw [ready] at busy
      cases busy
    · cases other _ _ queue
  · rfl

theorem writeBackTick_idle {s : State} (waits : s.eng.storeReady = false ∨
    ∀ q rest, s.eng.queue = q :: rest → q.kind = .load) : s.writeBackTick = s := by
  unfold State.writeBackTick
  split
  · next e w rest queue =>
    refine if_neg fun ready => ?_
    rcases waits with busy | other
    · rw [ready] at busy
      cases busy
    · cases other _ _ queue
  · rfl

/-! ### The statement -/

/-- Settles O40: the head request completes as its engine's place, the demand and the starved wheels say. -/
theorem storeRequestsComplete : Obligations.StoreRequestsComplete := by
  intro s run
  have loads : exec .loadComplete s = .next s.loadTick := whenRunning_running run
  have writes : exec .writeBackComplete s = .next s.writeBackTick := whenRunning_running run
  have wanted : ∀ w, s.bus.demand[w] ≠ 0 → s.demanded w = true := fun w => bne_iff_ne.mpr
  have unwanted : ∀ w, s.bus.demand[w] = 0 → s.demanded w = false := fun w => bne_eq_false_iff_eq.mpr
  dsimp only
  refine ⟨fun waits => by rw [loads, loadTick_idle waits], fun waits => by rw [writes, writeBackTick_idle waits],
    fun e w rest queue ready => ?_, fun e v rest queue ready => ?_⟩
  · obtain ⟨eng, eases⟩ := loadTick_completes queue ready
    have tail : s.eng.queue.tail = rest := by rw [queue]; rfl
    refine ⟨_, loads, s.loadTick_frame, eases, ?_⟩
    obtain ⟨busy, tone, dirty, others, free⟩ := loadComplete_loaded s.eng e w (s.demanded w)
    rw [eng]
    refine ⟨busy, tone, dirty, others, free, fun demand => ?_, fun demand enough => ?_, fun n more demand starved => ?_⟩
    · rw [wanted w demand, loadComplete_demanded, setEngine_self]
      exact ⟨rfl, tail, rfl, rfl, rfl⟩
    · rw [unwanted w demand, loadComplete_idles enough]
      have own := setEngine_self s.eng.popRequest e
        { loadedRecord s.eng e w with state := .idle, settle := 0, ticked := true }
      exact ⟨congrArg Engine.state own, congrArg Engine.settle own, rfl, tail, rfl⟩
    · rw [unwanted w demand, loadComplete_handsOver starved]
      have x := startLoad_started (({ s.eng.popRequest.setEngine e (loadedRecord s.eng e w) with starved := more } :
        EngineCache).bindWheel w none) e n
      obtain ⟨_, lru, hungry⟩ := x.lists
      refine ⟨congrArg Engine.state x.engine, congrArg Engine.wheel x.engine, hungry, lru, ?_, x.bound, fun other => ?_⟩
      · rw [← tail]
        exact x.queue
      · exact (x.unmoved w other).trans ((bindWheel_bound _ _ _ _).trans (if_pos rfl))
  · obtain ⟨eng, eases, req⟩ := writeBackTick_completes queue ready
    have tail : s.eng.queue.tail = rest := by rw [queue]; rfl
    refine ⟨_, writes, s.writeBackTick_frame, eases, ?_⟩
    rw [req, eng]
    have apart : ∀ i : EngineId, i ≠ e → (writtenBack s.eng e v).engines[i] = s.eng.engines[i] :=
      fun i ne => setEngine_other _ _ ne
    by_cases demanded : ∃ n, (s.eng.engines[e]).next = some n ∧ s.bus.demand[n] ≠ 0
    · obtain ⟨n, next, demand⟩ := demanded
      have x := startLoad_started (writtenBack s.eng e v) e n
      obtain ⟨free, lru, starved⟩ := x.lists
      rw [writeBackComplete_loads next (wanted n demand)]
      refine ⟨x.ready rfl, (x.tone v).trans (writtenBack_tone _ e v), fun i ne => (x.others i ne).trans (apart i ne),
        lru, fun n' same _ => ?_, fun none => absurd (none n next) demand, rfl⟩
      cases Option.some.inj (next.symm.trans same)
      rw [x.engine, x.queue, ← tail]
      exact ⟨rfl, rfl, rfl, x.bound, rfl, free, starved⟩
    · have none : ∀ n, (s.eng.engines[e]).next = some n → s.bus.demand[n] = 0 :=
        fun n next => not_not.mp fun demand => demanded ⟨n, next, demand⟩
      obtain ⟨d, engines, free, lru, starved, rests, ready, tone, freed⟩ := writeBackComplete_frees (v := v)
        fun n next => unwanted n (none n next)
      refine ⟨freed.ready ready, (freed.tone v).trans ((tone v).trans (writtenBack_tone _ e v)), fun i ne => ?_,
        freed.lru.trans lru, fun n next demand => absurd (none n next) demand, fun _ => ⟨fun enough => ?_,
        fun n more hungry => ?_⟩, rfl⟩
      · rw [freed.others i ne, engines, apart i ne]
      · obtain ⟨state, wheel, dirty, last, queued, _⟩ := freed.frees (starved.trans enough)
        rw [free] at last
        exact ⟨state, wheel, dirty, last, queued.trans (rests.trans tail)⟩
      · obtain ⟨state, wheel, dirty, left, kept, queued, bound⟩ := freed.handsOver n more (starved.trans hungry)
        rw [rests, tail] at queued
        exact ⟨state, wheel, dirty, left, kept.trans free, queued, bound⟩

end Sys2Proof.Machine.Engines
end

section
/-!
PROOFS. The processes of the present tick as rows of the table, and what they leave of the output unit
(10_audio_ports_and_output_limiting.md R168).
-/

namespace Sys2Proof.Machine.Outputs

open Sys2Proof.Machine.Requests Sys2Proof.Machine.Keys

/-! ### What is left of the output unit -/

/-- From s to t nothing of the output unit has changed but the limiters and the mute request. -/
def OutKept (s t : State) : Prop :=
  t.out = { s.out with limiters := t.out.limiters, muteRequest := t.out.muteRequest }

namespace OutKept

variable {s t u : State}

theorem refl (s : State) : OutKept s s := rfl

theorem trans (a : OutKept s t) (b : OutKept t u) : OutKept s u := by
  unfold OutKept at a b ⊢
  rw [b, a]

theorem of_frame {l : List Block} (f : Frame l s t) (apart : Block.out ∉ l) : OutKept s t := by
  have kept : s.out = { t.out with muteRequest := s.out.muteRequest } := (f.out apart).symm
  unfold OutKept
  rw [kept]

/-- A further step that leaves the output unit to its mute request. -/
theorem frame (a : OutKept s t) {l : List Block} (f : Frame l t u) (apart : Block.out ∉ l) : OutKept s u :=
  a.trans (of_frame f apart)

theorem of_out (e : t.out = s.out) : OutKept s t := by
  unfold OutKept
  rw [e]

theorem setLimiter (s : State) (o : OutputId) (l : Limiter) : OutKept s (s.setLimiter o l) := rfl

theorem foldl {α : Type} {f : State → α → State} (h : ∀ s a, OutKept s (f s a)) (xs : List α) (s : State) :
    OutKept s (xs.foldl f s) :=
  xs.foldlRecOn f (motive := OutKept s) (refl s) fun t kept a _ => kept.trans (h t a)

theorem asEvent {f : State → State} (h : OutKept s (f s)) : OutKept s (s.asEvent f) := by
  rcases asEvent_or_countChange f s with e | e
  · rwa [e]
  · rw [e]
    exact h.frame (State.countChange_frame _) (by decide)

end OutKept

/-! ### Written entries -/

theorem modeWritten_outKept (o : OutputId) (old : Word) (s : State) : OutKept s (s.modeWritten o old) := by
  unfold State.modeWritten
  split
  · exact .refl s
  · exact .setLimiter s _ _

theorem storeEntry_outKept (t : TableId) (i : Nat) (ws : List Word) (s : State) : OutKept s (s.storeEntry t i ws) :=
  .of_frame (s.storeEntry_frame t i ws) (by decide)

/-- Of the output unit a written entry changes a limiter or the mute request at most (R176, R185). -/
theorem writeEntry_outKept (t : TableId) (s : State) (i : Nat) (ws : List Word) : OutKept s (s.writeEntry t i ws) := by
  have store := fun (t : TableId) (u : State) => storeEntry_outKept t i ws u
  unfold State.writeEntry
  split
  · exact .of_frame (State.reconfigure_frame _ _ _) (by decide)
  · dsimp only
    split
    · exact (store _ _).frame (State.silenceWritten_frame _) (by decide)
    · split
      · exact (store _ _).frame (State.enableWritten_frame _ _) (by decide)
      · exact store _ _
  · split
    · exact (OutKept.of_frame (State.retryTicks_frame s) (by decide)).trans (store _ _)
    · exact store _ _
  · dsimp only
    split
    · exact (store _ _).frame (State.retarget_frame _ _) (by decide)
    · exact store _ _
  · dsimp only
    split
    · exact (store _ _).trans (modeWritten_outKept _ _ _)
    · exact store _ _
  · exact store _ _

theorem writeList_outKept (t : TableId) (es : List (Nat × List Word)) (s : State) : OutKept s (s.writeList t es) := by
  unfold State.writeList
  refine OutKept.foldl (fun u e => ?_) es s
  exact writeEntry_outKept t u e.1 e.2

theorem writeEntries_outKept (t : TableId) (es : List (Nat × List Word)) (s : State) :
    OutKept s (s.writeEntries t es) := by
  unfold State.writeEntries
  split
  · exact OutKept.asEvent (f := State.writeList .faultConfiguration es) (writeList_outKept _ es s)
  · exact (writeList_outKept _ es s).frame (State.checkNotice_frame _) (by decide)
  · exact writeList_outKept t es s

theorem restoreTick_outKept (s : State) : OutKept s s.restoreTick := by
  unfold State.restoreTick
  split
  · exact .refl s
  · dsimp only
    split
    · exact .of_out rfl
    · split <;> exact (writeEntries_outKept _ _ s).trans (.of_out rfl)

/-! ### The processes of a tick but the last -/

/-- The state in which a tick is found to be with or without a cascade sample: every other process has run. -/
def beforeCascade (s : State) : State :=
  s.tickLinkAndTables.tickContactsAndEngines.tickSound.silenceTick.retryTicks.noticeTick.waitingNotice

theorem tickProcesses_eq (s : State) : s.tickProcesses = (beforeCascade s).cascadeMissing := rfl

theorem tickLinkAndTables_outKept (s : State) : OutKept s s.tickLinkAndTables := by
  have link := ((OutKept.refl s).frame s.initTick_frame (by decide)).frame (State.quietTick_frame _) (by decide)
  exact (link.frame (State.windowTick_frame _) (by decide)).trans (restoreTick_outKept _)

theorem tickContactsAndEngines_outKept (s : State) : OutKept s s.tickContactsAndEngines := by
  have due := (OutKept.refl s).frame (State.applyDue_frame s.seq.schedule.length s) (by decide)
  have store := (due.frame (State.loadTick_frame _) (by decide)).frame (State.writeBackTick_frame _) (by decide)
  exact store.frame (State.settleTicks_frame _) (by decide)

theorem tickSound_outKept (s : State) : OutKept s s.tickSound := by
  have glides := ((OutKept.refl s).frame s.expireClicks_frame (by decide)).frame (State.glideTicks_frame _) (by decide)
  have halving := glides.frame (State.halvingTick_frame _) (by decide)
  exact (halving.frame (State.rotorTick_frame .horn _) (by decide)).frame (State.rotorTick_frame .drum _) (by decide)

theorem beforeCascade_outKept (s : State) : OutKept s (beforeCascade s) := by
  have sound := ((tickLinkAndTables_outKept s).trans (tickContactsAndEngines_outKept _)).trans (tickSound_outKept _)
  have retry := (sound.frame (State.silenceTick_frame _) (by decide)).frame (State.retryTicks_frame _) (by decide)
  exact (retry.frame (State.noticeTick_frame _) (by decide)).frame (State.waitingNotice_frame _) (by decide)

theorem retryTicks_running {s : State} (run : s.Running) : s.retryTicks.Running :=
  s.retryTicks_frame.running (by decide) run

theorem silenceTick_running {s : State} (run : s.Running) : s.silenceTick.Running :=
  s.silenceTick_frame.running (by decide) run

theorem noticeTick_running {s : State} (run : s.Running) : s.noticeTick.Running :=
  s.noticeTick_frame.running (by decide) run

theorem waitingNotice_running {s : State} (run : s.Running) : s.waitingNotice.Running :=
  s.waitingNotice_frame.running (by decide) run

theorem beforeCascade_running {s : State} (run : s.Running) : (beforeCascade s).Running := by
  have sound := State.tickSound_running (State.tickContactsAndEngines_running (State.tickLinkAndTables_running run))
  rw [beforeCascade]
  exact waitingNotice_running (noticeTick_running (retryTicks_running (silenceTick_running sound)))

/-! ### The rows of the processes -/

theorem rows_cons {s t u : State} {c : Instr} {l : List Instr} (row : exec c s = .next t)
    (rows : execAll l t = .next u) : execAll (c :: l) s = .next u := (execAll_cons l row).trans rows

theorem rows_last {s t : State} {c : Instr} (row : exec c s = .next t) : execAll [c] s = .next t := by
  rw [execAll_cons [] row, execAll]

theorem rows_append {s t u : State} {l m : List Instr} (rows : execAll l s = .next t)
    (more : execAll m t = .next u) : execAll (l ++ m) s = .next u := (execAll_append m rows).trans more

theorem rows_linkAndTables {s : State} (run : s.Running) :
    execAll [.initializationDone, .quietTimerExpiry, .searchWindowEnd, .restoreStep] s
      = .next s.tickLinkAndTables := by
  have init := State.initTick_running run
  have quiet := (State.quietTick_frame _).running (by decide) init
  have window := (State.windowTick_frame _).running (by decide) quiet
  exact rows_cons (whenRunning_running (f := State.initTick) run)
    (rows_cons (whenRunning_running (f := State.quietTick) init)
      (rows_cons (whenRunning_running (f := State.windowTick) quiet)
        (rows_last (whenRunning_running (f := State.restoreTick) window))))

theorem rows_contactsAndEngines {s : State} (run : s.Running) :
    execAll (List.replicate s.seq.schedule.length .scheduleEntryDue ++ [.loadComplete, .writeBackComplete]
      ++ (List.finRange 64).map Instr.settleDone) s = .next s.tickContactsAndEngines := by
  have due := (State.applyDue_frame s.seq.schedule.length s).running (by decide) run
  have load := (State.loadTick_frame _).running (by decide) due
  have store := State.writeBackTick_running load
  exact rows_append (rows_append (applyDue_eq_rows _ run)
    (rows_cons (whenRunning_running (f := State.loadTick) due)
      (rows_last (whenRunning_running (f := State.writeBackTick) load)))) (settleTicks_eq_rows store)

theorem rows_soundAndFaults {s : State} (run : s.Running) :
    execAll (List.replicate s.bus.clicks.length .clickPulseExpiry
      ++ [.glideStep .upper, .glideStep .lower, .glideStep .pedal, .halving, .boundaryStep, .consoleSilenceExpiry]
      ++ allKinds.map Instr.retryExpiry ++ [.noticeTimeExpiry, .noticeWaitingQueued]) s
      = .next s.tickSound.silenceTick.retryTicks.noticeTick.waitingNotice := by
  have clicks := s.expireClicks_frame.running (by decide) run
  have glides := (State.glideTicks_frame _).running (by decide) clicks
  have halving := (State.halvingTick_frame _).running (by decide) glides
  have sound := State.tickSound_running run
  have silence := silenceTick_running sound
  have retry := retryTicks_running silence
  have timers : execAll [.halving, .boundaryStep, .consoleSilenceExpiry] s.expireClicks.glideTicks
      = .next s.tickSound.silenceTick :=
    rows_cons (whenRunning_running (f := State.halvingTick) glides)
      (rows_cons (whenRunning_running (f := fun s => (s.rotorTick .horn).rotorTick .drum) halving)
        (rows_last (whenRunning_running (f := State.silenceTick) sound)))
  have notice : execAll [.noticeTimeExpiry, .noticeWaitingQueued] s.tickSound.silenceTick.retryTicks
      = .next s.tickSound.silenceTick.retryTicks.noticeTick.waitingNotice :=
    rows_cons (whenRunning_running (f := State.noticeTick) retry)
      (rows_last (whenRunning_running (f := State.waitingNotice) (noticeTick_running retry)))
  exact rows_append (rows_append (rows_append (expireClicks_eq_rows run)
    (rows_append (glideTicks_eq_rows clicks) timers)) (retryTicks_eq_rows silence)) notice

theorem processesRun_tickProcesses {s : State} (run : s.Running) : ProcessesRun s s.tickProcesses := by
  have link := State.tickLinkAndTables_running run
  have contacts := State.tickContactsAndEngines_running link
  have kept := beforeCascade_outKept s
  unfold OutKept at kept
  have judged : (beforeCascade s).out.cascadeJudged = s.out.cascadeJudged := by rw [kept]
  obtain ⟨good, missing⟩ := cascadeMissing_eq _ (beforeCascade_running run)
  rw [judged] at good missing
  exact ⟨s.tickLinkAndTables, s.tickLinkAndTables.tickContactsAndEngines, beforeCascade s, rows_linkAndTables run,
    rows_contactsAndEngines link, rows_soundAndFaults contacts, good, missing⟩

/-- EPISODE_START and EPISODE_END are the output stage's step after the processes of the tick (R172). -/
theorem exec_episode {s : State} (run : s.Running) :
    exec .episodeStart s = .next s.tickProcesses.outputStage ∧
      exec .episodeEnd s = .next s.tickProcesses.outputStage :=
  ⟨whenRunning_running (f := State.finishTick) run,
    whenRunning_running (f := fun s => s.tickProcesses.outputStage) run⟩

/-- A tick with a cascade sample keeps what it has of it, and one without takes a bad one (R168). -/
theorem tickProcesses_cascade (s : State) :
    (s.out.cascadeJudged = true → s.tickProcesses.out.cascadeValid = s.out.cascadeValid ∧
      s.tickProcesses.out.cascadeRun = s.out.cascadeRun ∧ s.tickProcesses.out.cascadeIn = s.out.cascadeIn) ∧
    (s.out.cascadeJudged = false → s.tickProcesses.out.cascadeValid = false ∧ s.tickProcesses.out.cascadeRun = 0 ∧
      s.tickProcesses.out.cascadeIn = 0 ∧ s.tickProcesses.out.cascadeJudged = true) := by
  have kept := beforeCascade_outKept s
  unfold OutKept at kept
  have judged : (beforeCascade s).out.cascadeJudged = s.out.cascadeJudged := by rw [kept]
  rw [tickProcesses_eq]
  unfold State.cascadeMissing
  constructor
  · intro good
    rw [judged, if_pos good, kept]
    exact ⟨rfl, rfl, rfl⟩
  · intro missing
    rw [judged, missing]
    exact ⟨rfl, rfl, rfl, rfl⟩

end Sys2Proof.Machine.Outputs
end

section
/-!
PROOFS. What starts of limit episodes leave and change: a tick in which none starts, in which some start, and
in which exactly one starts (10_audio_ports_and_output_limiting.md R173 and R177, 11_faults.md R181, R182, R189).
-/

namespace Sys2Proof.Machine.Outputs

open Sys2Proof.Machine.Requests Sys2Proof.Machine.Keys

variable {s t u : State}

/-! ### No start -/

/-- From s to t nothing has changed that a fault record, a signal or a notice tells: only ENG, PRC, ROT and OUT, and
no limit flag. -/
structure Unreported (s t : State) : Prop where
  frame : Frame [.eng, .prc, .rot, .out] s t
  flags : ∀ o : OutputId, (t.out.limiters[o]).flag = (s.out.limiters[o]).flag

namespace Unreported

theorem record (a : Unreported s t) (k : FaultKind) : t.record k = s.record k := by
  rw [State.record, a.frame.flt (by decide), State.record]

theorem mode (a : Unreported s t) (k : FaultKind) : t.faultMode k = s.faultMode k := by
  simp only [State.faultMode, a.frame.tab (by decide)]

theorem action (a : Unreported s t) (k : FaultKind) : t.faultAction k = s.faultAction k := by
  simp only [State.faultAction, a.frame.tab (by decide)]

theorem inForce (a : Unreported s t) (x : Action) : t.inForce x = s.inForce x := by
  simp only [State.inForce, a.record]

theorem wouldRelease (a : Unreported s t) (k : FaultKind) : t.WouldRelease k ↔ s.WouldRelease k := by
  rw [State.WouldRelease, State.WouldRelease, a.mode, a.record, a.action]

theorem opState (a : Unreported s t) : t.req.opState = s.req.opState := by rw [a.frame.req (by decide)]

theorem noticeState (a : Unreported s t) : t.noticeState = s.noticeState := by
  simp only [State.noticeState, a.record, a.inForce, a.flags, a.opState]

theorem noticeWords (a : Unreported s t) : t.noticeWords = s.noticeWords := by
  simp only [State.noticeWords, a.record, a.inForce, a.flags, a.opState, a.frame.flt (by decide)]

theorem signalled (a : Unreported s t) (h : s.Signalled) : t.Signalled where
  hold := by rw [a.frame.hold (by decide), h.hold, State.holdWanted, State.holdWanted, a.inForce]
  mute := by rw [a.frame.mute (by decide), h.mute, State.muteWanted, State.muteWanted, a.inForce, a.opState]
  fault := by simp only [a.frame.flt (by decide), h.fault, State.faultWanted, a.inForce, a.mode, a.record]
  warn := by
    simp only [a.frame.flt (by decide), h.warn, State.warnWanted, a.mode, a.record, State.anyLimitFlag, a.flags]

end Unreported

/-- From s to t no limit episode has started: only OUT has changed, and no limit flag. -/
structure NoStart (s t : State) : Prop where
  frame : Frame [.out] s t
  flags : ∀ o : OutputId, (t.out.limiters[o]).flag = (s.out.limiters[o]).flag

namespace NoStart

theorem refl (s : State) : NoStart s s := ⟨.refl _ s, fun _ => rfl⟩

theorem trans (a : NoStart s t) (b : NoStart t u) : NoStart s u :=
  ⟨a.frame.trans b.frame, fun o => (b.flags o).trans (a.flags o)⟩

theorem unreported (a : NoStart s t) : Unreported s t := ⟨a.frame.mono (by decide), a.flags⟩

theorem eng (a : NoStart s t) : t.eng = s.eng := a.frame.eng (by decide)

end NoStart

/-! ### One start or more -/

/-- The record of a kind after a step in which limit episodes have started: OUTPUT_LIMIT has occurred, and the
condition of a shortage that its RELEASE has ended is gone (R110, R181). -/
def limitedRecord (s t : State) (k : FaultKind) : FaultRecord :=
  let q := if k = .outputLimit then (s.record k).occurred (s.faultMode k) (s.faultAction k) else s.record k
  if k = .engineShortage ∧ s.eng.starved ≠ [] ∧ t.eng.starved = [] then q.gone (s.faultMode k) else q

/-- From s to t the scanner lines and phase have stayed: what a release leaves of PRC at least (R55, R146). -/
structure LinesKept (s t : State) : Prop where
  phase : t.prc.phase = s.prc.phase
  upper : t.prc.upperLine = s.prc.upperLine
  lower : t.prc.lowerLine = s.prc.lowerLine

theorem LinesKept.of_prc (e : t.prc = s.prc) : LinesKept s t := ⟨by rw [e], by rw [e], by rw [e]⟩

theorem LinesKept.trans (a : LinesKept s t) (b : LinesKept t u) : LinesKept s u :=
  ⟨b.phase.trans a.phase, b.upper.trans a.upper, b.lower.trans a.lower⟩

theorem release_linesKept (s : State) : LinesKept s (s.release allManuals) := by
  have prc := (release_released allManuals_nodup s).prc
  have rearmed : ∀ p : Percussion, p.rearmed.phase = p.phase ∧ p.rearmed.upperLine = p.upperLine ∧
      p.rearmed.lowerLine = p.lowerLine := fun p => by
    unfold Percussion.rearmed
    split <;> exact ⟨rfl, rfl, rfl⟩
  by_cases ends : .upper ∈ allManuals ∧ s.manualUp .upper = false
  · rw [if_pos ends] at prc
    obtain ⟨phase, upper, lower⟩ := rearmed s.prc
    exact ⟨by rw [prc, phase], by rw [prc, upper], by rw [prc, lower]⟩
  · exact .of_prc (prc.trans (if_neg ends))

theorem occur_linesKept (k : FaultKind) (s : State) : LinesKept s (s.occur k) := by
  rcases occur_cases k s with ⟨_, _, go, _⟩ | ⟨_, go⟩ | ⟨_, go⟩
  · exact .of_prc (by rw [go])
  · rw [go]
    exact .of_prc ((withOccurrence_refresh k s).1.prc (by decide))
  · rw [go]
    exact (LinesKept.of_prc ((withOccurrence_refresh k s).1.prc (by decide))).trans (release_linesKept _)

/-- What the output stage's step may change where OUTPUT_LIMIT does not release the keys. -/
abbrev heldBlocks : List Block := [.out, .cnt, .replies, .hold, .mute, .flt]

/-- From s to t one limit episode or more have started (R173, R177). -/
structure Started (s t : State) : Prop where
  records : ∀ k, t.record k = limitedRecord s t k
  signals : t.Signalled
  released : s.WouldRelease .outputLimit → Released allManuals s t
  kept : ¬ s.WouldRelease .outputLimit → Frame heldBlocks s t
  lines : LinesKept s t
  frame : Frame (.out :: closeBlocks) s t

/-- From s to t one event has changed the notice state at most, and has been counted if so (R189). -/
def OneChange (s t : State) : Prop :=
  ∃ notices, t.lnk.replies = s.lnk.replies ++ notices ∧ ChangeCounted (s.NoticeRoom .broadcast) notices s t

theorem occurred_occurred (m : FaultMode) (x : Action) (r : FaultRecord) :
    (r.occurred m x).occurred m x = r.occurred m x := by
  cases m <;> rfl

/-- A kind that has occurred does not release the keys when it occurs again: its episode is held (R181). -/
theorem occurred_held {m : FaultMode} (holds : m.holds = true) (x : Action) (r : FaultRecord) :
    (r.occurred m x).held ≠ none := by
  cases m with
  | disabled => simp [FaultMode.holds] at holds
  | reportOnly => simp [FaultMode.holds] at holds
  | latched => exact Option.some_ne_none _
  | autoRetry => exact Option.some_ne_none _

namespace Started

theorem tab (a : Started s t) : t.tab = s.tab := a.frame.tab (by decide)

theorem mode (a : Started s t) (k : FaultKind) : t.faultMode k = s.faultMode k := by
  simp only [State.faultMode, a.tab]

theorem action (a : Started s t) (k : FaultKind) : t.faultAction k = s.faultAction k := by
  simp only [State.faultAction, a.tab]

theorem limitRecord (a : Started s t) : t.record .outputLimit
    = (s.record .outputLimit).occurred (s.faultMode .outputLimit) (s.faultAction .outputLimit) := by
  rw [a.records, limitedRecord]
  simp

theorem not_wouldRelease (a : Started s t) : ¬ t.WouldRelease .outputLimit := by
  rintro ⟨holds, free, _⟩
  rw [a.mode] at holds
  rw [a.limitRecord] at free
  exact occurred_held holds _ _ free

/-- After a first start the keys are released, if they are, and further starts repeat what it did. -/
theorem trans (a : Started s t) (b : Started t u) : Started s u where
  records k := by
    have eng : u.eng = t.eng := (b.kept a.not_wouldRelease).eng (by decide)
    have none : ¬ (k = .engineShortage ∧ t.eng.starved ≠ [] ∧ t.eng.starved = []) := fun ⟨_, was, now⟩ =>
      was now
    by_cases limit : k = .outputLimit
    · subst limit
      rw [b.limitRecord, a.limitRecord, a.mode, a.action, occurred_occurred, limitedRecord]
      simp
    · rw [b.records, limitedRecord]
      simp only [if_neg none, if_neg limit, a.records, limitedRecord, limitedRecord, eng]
  signals := b.signals
  released would := by
    have held := b.kept a.not_wouldRelease
    exact Released.congr (a.released would) rfl rfl rfl (held.key (by decide)) (held.seq (by decide))
      (held.bus (by decide))
  kept not := (a.kept not).trans (b.kept a.not_wouldRelease)
  lines := a.lines.trans b.lines
  frame := a.frame.trans b.frame

/-- What comes before the starts and leaves the Starved Wheel List is of no account to the records. -/
theorem records_after (a : Started t u) (q : Unreported s t) (starved : t.eng.starved = s.eng.starved) (k : FaultKind) :
    u.record k = limitedRecord s u k := by
  rw [a.records, limitedRecord, limitedRecord, q.record, q.mode, q.action, starved]

theorem released_after (a : Started t u) (q : Unreported s t) (would : s.WouldRelease .outputLimit) :
    Released allManuals s u :=
  Released.congr (a.released ((q.wouldRelease _).mpr would)) (q.frame.key (by decide)) (q.frame.bus (by decide))
    (q.frame.tick (by decide)) rfl rfl rfl

theorem after_noStart (q : NoStart s t) (a : Started t u) : Started s u where
  records := a.records_after q.unreported (by rw [q.eng])
  signals := a.signals
  released := a.released_after q.unreported
  kept not := (q.frame.mono (by decide)).trans (a.kept fun w => not ((q.unreported.wouldRelease _).mp w))
  lines := (LinesKept.of_prc (q.frame.prc (by decide))).trans a.lines
  frame := (q.frame.mono (by decide)).trans a.frame

theorem before_noStart (a : Started s t) (q : NoStart t u) : Started s u where
  records k := by
    rw [q.unreported.record, a.records, limitedRecord, limitedRecord, q.eng]
  signals := q.unreported.signalled a.signals
  released would := Released.congr (a.released would) rfl rfl rfl (q.frame.key (by decide)) (q.frame.seq (by decide))
    (q.frame.bus (by decide))
  kept not := (a.kept not).trans (q.frame.mono (by decide))
  lines := a.lines.trans (.of_prc (q.frame.prc (by decide)))
  frame := a.frame.trans (q.frame.mono (by decide))

end Started

theorem OneChange.after (a : OneChange t u) (q : Unreported s t) : OneChange s u := by
  obtain ⟨notices, queue, counted⟩ := a
  refine ⟨notices, by rw [queue, q.frame.replies (by decide)], ?_⟩
  refine ChangeCounted.of_kept counted ?_ (.of_flt (q.frame.flt (by decide))) q.noticeState
  rw [State.NoticeRoom, State.NoticeRoom, q.frame.replies (by decide), q.frame.place (by decide)]

theorem OneChange.before (a : OneChange s t) (q : Unreported t u) : OneChange s u := by
  obtain ⟨notices, queue, counted⟩ := a
  refine ⟨notices, by rw [q.frame.replies (by decide), queue], ?_⟩
  unfold ChangeCounted NoticeChecked State.noticeEnable State.noticeCount State.noticeTime State.station at counted ⊢
  rw [q.frame.tab (by decide), q.frame.flt (by decide), q.noticeState, q.noticeWords]
  exact counted

/-! ### As many starts as there are -/

/-- From s to t as many limit episodes have started as n says. -/
structure Starts (n : Nat) (s t : State) : Prop where
  none : n = 0 → NoStart s t
  some : 0 < n → Started s t
  one : n = 1 → OneChange s t

theorem Starts.refl (s : State) : Starts 0 s s := ⟨fun _ => .refl s, nofun, nofun⟩

theorem Starts.trans {n m : Nat} (a : Starts n s t) (b : Starts m t u) : Starts (n + m) s u := by
  rcases Nat.eq_zero_or_pos n with rfl | some
  · have q := a.none rfl
    rw [Nat.zero_add]
    exact ⟨fun e => q.trans (b.none e), fun p => .after_noStart q (b.some p), fun e => (b.one e).after q.unreported⟩
  · rcases Nat.eq_zero_or_pos m with rfl | more
    · have q := b.none rfl
      exact ⟨fun e => absurd e (Nat.ne_of_gt some), fun _ => (a.some some).before_noStart q,
        fun e => (a.one e).before q.unreported⟩
    · exact ⟨fun e => absurd e (by omega), fun _ => (a.some some).trans (b.some more), fun e => absurd e (by omega)⟩

namespace Starts

variable {n : Nat}

theorem lines (a : Starts n s t) : LinesKept s t := by
  rcases Nat.eq_zero_or_pos n with zero | some
  · exact .of_prc ((a.none zero).frame.prc (by decide))
  · exact (a.some some).lines

theorem frame (a : Starts n s t) : Frame (.out :: closeBlocks) s t := by
  rcases Nat.eq_zero_or_pos n with zero | some
  · exact (a.none zero).frame.mono (by decide)
  · exact (a.some some).frame

/-- Where no start releases the keys, the keys, the schedule, the busses and the engines stay. -/
theorem held (a : Starts n s t) (not : ¬ (0 < n ∧ s.WouldRelease .outputLimit)) : Frame heldBlocks s t := by
  rcases Nat.eq_zero_or_pos n with zero | some
  · exact (a.none zero).frame.mono (by decide)
  · exact (a.some some).kept fun would => not ⟨some, would⟩

end Starts

/-! ### One limiter's step -/

/-- What a limiter makes of its output's pre-limit sample x, and whether an episode starts (R173, R174). -/
def judged (x : Sample) (s : State) (o : OutputId) : Limiter × Bool :=
  (s.out.limiters[o]).step (s.limitMode o) (s.outputDeglitch o) (s.limitN o) s.atBoundary
    (exceeds x (s.outputThreshold o))

/-- A limiter's record replaced, and the start counted (R177). -/
def withStart (o : OutputId) (l : Limiter) (s : State) : State :=
  (s.setLimiter o l).count
    fun c => { c with limitEpisodes := c.limitEpisodes.set o (c.limitEpisodes[o] + 1) }

/-- The start of an episode before its change is counted: OUTPUT_LIMIT occurs (R173). -/
def starting (o : OutputId) (l : Limiter) (s : State) : State := ((withStart o l s).occur .outputLimit).refresh

theorem stepLimiter_eq (x : Sample) (s : State) (o : OutputId) : s.stepLimiter x o =
    if (judged x s o).2 then s.asEvent (starting o (judged x s o).1) else s.setLimiter o (judged x s o).1 := rfl

theorem setLimiter_get (s : State) (o p : OutputId) (l : Limiter) :
    (s.setLimiter o l).out.limiters[p] = if p = o then l else s.out.limiters[p] := by
  unfold State.setLimiter
  by_cases same : p = o
  · subst same
    simp
  · have ne : (o : Nat) ≠ p := fun h => same (Fin.ext h.symm)
    simp [Vector.getElem_set_ne, ne, same]

theorem withStart_frame (o : OutputId) (l : Limiter) (s : State) : Frame [.out, .cnt] s (withStart o l s) :=
  ((s.setLimiter_frame o l).mono (by decide)).trans ((State.count_frame _ _).mono (by decide))

theorem starting_started (o : OutputId) (l : Limiter) (s : State) : Started s (s.asEvent (starting o l)) := by
  have raw := occur_applied .outputLimit (withStart o l s)
  have fresh := ((withStart o l s).occur .outputLimit).refresh_frame
  have event := asEvent_notices (starting o l) s
  refine ⟨fun k => ?_, (asEvent_summaryKept (starting o l) s).signalled (refresh_signalled _), fun would => ?_,
    fun not => ?_, ?_, ?_⟩
  · rw [asEvent_record, limitedRecord, event.eng (by decide)]
    exact raw.records k
  · exact Released.congr (raw.released would) rfl rfl rfl (event.key (by decide)) (event.seq (by decide))
      (event.bus (by decide))
  · exact (((withStart_frame o l s).mono (by decide)).trans ((raw.kept not).mono (by decide))).trans
      ((fresh.mono (by decide)).trans (event.mono (by decide)))
  · exact ((LinesKept.of_prc ((withStart_frame o l s).prc (by decide))).trans
      (occur_linesKept .outputLimit (withStart o l s))).trans
      (.of_prc (event.prc (by decide)))
  · exact (((withStart_frame o l s).mono (by decide)).trans (raw.frame.mono (by decide))).trans
      ((fresh.mono (by decide)).trans (event.mono (by decide)))

theorem starting_oneChange (o : OutputId) (l : Limiter) {s : State} (ready : s.req.opState ≠ .initializing) :
    OneChange s (s.asEvent (starting o l)) := by
  have raw := occur_applied .outputLimit (withStart o l s)
  have kept : NoticesKept s (starting o l s) :=
    (NoticesKept.of_flt ((withStart_frame o l s).flt (by decide))).trans (raw.notices.trans (refresh_noticesKept _))
  have lnk : (starting o l s).lnk = s.lnk := raw.frame.allLnk (by decide) (by decide) (by decide)
  have req : (starting o l s).req = s.req := raw.frame.req (by decide)
  obtain ⟨notices, queue, counted⟩ := asEvent_counted kept lnk (by rw [req]; exact ready)
  exact ⟨notices, queue, ChangeCounted.of_kept counted (noticePlace_broadcast s) (.refl s) rfl⟩

/-- A standing episode goes on or ends as its mode says (R174). -/
theorem step_standing {l : Limiter} {e : Episode} (stands : l.episode = some e) (mode : LimitMode) (d n : Nat)
    (b x : Bool) :
    l.step mode d n b x = ({ l with run := 0, episode := e.step b x }, false) := by
  unfold Limiter.step
  split
  · next h => cases stands.symm.trans h; rfl
  · next h => cases stands.symm.trans h

/-- Without an episode a limiter rests in mode OFF and below its threshold (R173). -/
theorem step_resting {l : Limiter} {mode : LimitMode} {x : Bool} (free : l.episode = none)
    (rests : mode = .off ∨ x = false) (d n : Nat) (b : Bool) :
    l.step mode d n b x = ({ l with run := 0 }, false) := by
  unfold Limiter.step
  split
  · next h => cases free.symm.trans h
  · rw [if_pos rests]

/-- Without an episode a limiter counts its run up to the deglitch (R173). -/
theorem step_counting {l : Limiter} {mode : LimitMode} {d : Nat} (free : l.episode = none) (on : mode ≠ .off)
    (short : l.run + 1 < d) (n : Nat) (b : Bool) :
    l.step mode d n b true = ({ l with run := l.run + 1 }, false) := by
  unfold Limiter.step
  split
  · next h => cases free.symm.trans h
  · rw [if_neg (fun h => h.elim on nofun), if_neg (Nat.not_le.mpr short)]

/-- A limiter whose run comes to its deglitch starts an episode (R173). -/
theorem step_starting {l : Limiter} {mode : LimitMode} {d : Nat} (free : l.episode = none) (on : mode ≠ .off)
    (long : d ≤ l.run + 1) (n : Nat) (b : Bool) : l.step mode d n b true =
      ({ run := 0, episode := some ⟨mode, if mode = .afterN then n + 1 else 0, false⟩, flag := true }, true) := by
  unfold Limiter.step
  split
  · next h => cases free.symm.trans h
  · rw [if_neg (fun h => h.elim on nofun), if_pos long]

theorem step_starts_iff {l : Limiter} {mode : LimitMode} {d n : Nat} {b x : Bool} :
    (l.step mode d n b x).2 = true ↔ l.episode = none ∧ mode ≠ .off ∧ x = true ∧ d ≤ l.run + 1 := by
  cases free : l.episode with
  | some e => simp [step_standing free]
  | none =>
    by_cases rests : mode = .off ∨ x = false
    · rw [step_resting free rests]
      rcases rests with off | below
      · simp [off]
      · simp [below]
    · obtain ⟨on, above⟩ := not_or.mp rests
      have above : x = true := Bool.eq_true_of_not_eq_false above
      subst above
      by_cases long : d ≤ l.run + 1
      · simp [step_starting free on long, on, long]
      · simp [step_counting free on (Nat.not_le.mp long), long]

/-- A limiter that starts no episode keeps its limit flag (R177). -/
theorem step_flag {l : Limiter} {mode : LimitMode} {d n : Nat} {b x : Bool} (not : ¬ (l.step mode d n b x).2 = true) :
    (l.step mode d n b x).1.flag = l.flag := by
  unfold Limiter.step at not ⊢
  split at not
  · rfl
  · split_ifs at not ⊢
    · rfl
    · exact absurd rfl not
    · exact absurd rfl not
    · rfl

/-- Before the end of INITIALIZING no output has a mode, and no episode starts (R178). -/
theorem judged_ready {x : Sample} {s : State} {o : OutputId} (start : (judged x s o).2 = true) :
    s.req.opState ≠ .initializing := by
  intro init
  have off : s.limitMode o = .off := by
    rw [State.limitMode, State.outputWord, if_pos init]
    rfl
  obtain ⟨_, on, _⟩ := step_starts_iff.mp start
  exact on off

/-- One limiter's step starts one episode or none. -/
theorem stepLimiter_starts (x : Sample) (s : State) (o : OutputId) :
    Starts (if (judged x s o).2 then 1 else 0) s (s.stepLimiter x o) := by
  rw [stepLimiter_eq]
  by_cases start : (judged x s o).2 = true
  · rw [if_pos start, if_pos start]
    exact ⟨nofun, fun _ => starting_started o _ s, fun _ => starting_oneChange o _ (judged_ready start)⟩
  · rw [if_neg start, if_neg start]
    refine ⟨fun _ => ⟨s.setLimiter_frame o _, fun p => ?_⟩, nofun, nofun⟩
    have flag : (judged x s o).1.flag = (s.out.limiters[o]).flag := step_flag start
    rw [setLimiter_get]
    split
    · next same => rw [flag, same]
    · rfl

end Sys2Proof.Machine.Outputs
end

section
/-!
PROOFS. The limiters of the four outputs take their step one after another: each judges its own pre-limit sample
by the settings of the tick, and what the starts among them do comes together
(10_audio_ports_and_output_limiting.md R172 to R174, R177).
-/

namespace Sys2Proof.Machine.Outputs

open Sys2Proof.Machine.Requests Sys2Proof.Machine.Keys

variable {s t u : State}

/-! ### One limiter -/

/-- From the count of a start on, neither OUT but the mute request nor CNT changes (R173). -/
theorem starting_frame (o : OutputId) (l : Limiter) (s : State) :
    Frame (.replies :: occurBlocks) (withStart o l s) (s.asEvent (starting o l)) :=
  ((State.occur_frame .outputLimit (withStart o l s)).mono (by decide)).trans
    (((State.refresh_frame _).mono (by decide)).trans ((asEvent_notices (starting o l) s).mono (by decide)))

theorem limiters_of_frame {l : List Block} (f : Frame l s t) (apart : Block.out ∉ l) :
    t.out.limiters = s.out.limiters := by
  show ({ t.out with muteRequest := s.out.muteRequest } : OutputUnit).limiters = _
  rw [f.out apart]

theorem stepLimiter_limiters (x : Sample) (s : State) (o p : OutputId) : (s.stepLimiter x o).out.limiters[p]
    = if p = o then (judged x s o).1 else s.out.limiters[p] := by
  rw [stepLimiter_eq, ← setLimiter_get]
  split
  · have kept := limiters_of_frame (starting_frame o (judged x s o).1 s) (by decide)
    exact congrArg (fun v : Vector Limiter 4 => v[p]) kept
  · rfl

theorem stepLimiter_outKept (x : Sample) (s : State) (o : OutputId) : OutKept s (s.stepLimiter x o) := by
  rw [stepLimiter_eq]
  split
  · exact (OutKept.setLimiter s o (judged x s o).1).trans
      ((OutKept.of_out (t := withStart o (judged x s o).1 s) rfl).frame (starting_frame o _ s) (by decide))
  · exact .setLimiter s o _

/-- The counts of starts once output o has started an episode, if it has (R177). -/
def countedStart (start : Bool) (o : OutputId) (c : Counters) : Counters :=
  if start then { c with limitEpisodes := c.limitEpisodes.set o (c.limitEpisodes[o] + 1) } else c

theorem countedStart_get (start : Bool) (o p : OutputId) (c : Counters) :
    (countedStart start o c).limitEpisodes[p] = c.limitEpisodes[p] + if p = o ∧ start = true then 1 else 0 := by
  unfold countedStart
  cases start with
  | false => simp
  | true =>
    by_cases same : p = o
    · subst same
      simp
    · have ne : (o : Nat) ≠ p := fun h => same (Fin.ext h.symm)
      simp [Vector.getElem_set_ne, ne, same]

theorem countedStart_others (start : Bool) (o : OutputId) (c : Counters) :
    countedStart start o c = { c with limitEpisodes := (countedStart start o c).limitEpisodes } := by
  unfold countedStart
  split <;> rfl

theorem stepLimiter_cnt (x : Sample) (s : State) (o : OutputId) :
    (s.stepLimiter x o).cnt = countedStart (judged x s o).2 o s.cnt := by
  rw [stepLimiter_eq, countedStart]
  split
  · rw [(starting_frame o _ s).cnt (by decide)]
    rfl
  · rfl

/-- A limiter judges by its record, the settings and the Tick Count. -/
theorem judged_congr {l : List Block} (f : Frame l s t) (apart : Block.tab ∉ l ∧ Block.req ∉ l ∧ Block.tick ∉ l)
    {o : OutputId} (same : t.out.limiters[o] = s.out.limiters[o]) (x : Sample) : judged x t o = judged x s o := by
  obtain ⟨tab, req, tick⟩ := apart
  unfold judged State.limitMode State.outputDeglitch State.limitN State.atBoundary State.outputThreshold
    State.outputWord
  rw [same, f.tab tab, f.req req, f.tick tick]

/-! ### All of them -/

/-- From s to t the limiters of some outputs have taken their step. -/
structure LimitersStepped (pre : Vector Sample 4) (l : List OutputId) (s t : State) : Prop where
  limiters : ∀ o : OutputId, t.out.limiters[o] = if o ∈ l then (judged pre[o] s o).1 else s.out.limiters[o]
  episodes : ∀ o : OutputId, t.cnt.limitEpisodes[o]
    = s.cnt.limitEpisodes[o] + if o ∈ l ∧ (judged pre[o] s o).2 = true then 1 else 0
  counters : t.cnt = { s.cnt with limitEpisodes := t.cnt.limitEpisodes }
  out : OutKept s t
  starts : Starts (l.countP fun o => (judged pre[o] s o).2) s t

theorem foldl_stepLimiter (pre : Vector Sample 4) {l : List OutputId} (once : l.Nodup) :
    ∀ s : State, LimitersStepped pre l s (l.foldl (fun s o => s.stepLimiter pre[o] o) s) := by
  induction l with
  | nil => exact fun s => ⟨fun _ => rfl, fun _ => by simp, rfl, .refl s, .refl s⟩
  | cons o l ih =>
    intro s
    obtain ⟨new, rest⟩ := List.nodup_cons.mp once
    have later := ih rest (s.stepLimiter pre[o] o)
    have others : ∀ p : OutputId, p ≠ o → (s.stepLimiter pre[o] o).out.limiters[p] = s.out.limiters[p] :=
      fun p ne => (stepLimiter_limiters _ s o p).trans (if_neg ne)
    have same : ∀ p ∈ l, judged pre[p] (s.stepLimiter pre[o] o) p = judged pre[p] s p := fun p mem =>
      judged_congr (State.stepLimiter_frame _ s o) (by decide) (others p fun e => new (e ▸ mem)) _
    refine ⟨fun p => ?_, fun p => ?_, ?_, (stepLimiter_outKept _ s o).trans later.out, ?_⟩
    · rw [List.foldl_cons, later.limiters]
      by_cases mem : p ∈ l
      · rw [if_pos mem, if_pos (List.mem_cons_of_mem _ mem), same p mem]
      · rw [if_neg mem, stepLimiter_limiters]
        by_cases e : p = o
        · subst e
          simp
        · rw [if_neg e, if_neg (by simp [e, mem])]
    · rw [List.foldl_cons, later.episodes, stepLimiter_cnt, countedStart_get]
      by_cases mem : p ∈ l
      · have ne : p ≠ o := fun e => new (e ▸ mem)
        rw [same p mem]
        simp [mem, ne]
      · by_cases e : p = o
        · subst e
          simp [mem]
        · simp [mem, e]
    · rw [List.foldl_cons, later.counters, stepLimiter_cnt, countedStart_others]
    · have count : (l.countP fun p => (judged pre[p] (s.stepLimiter pre[o] o) p).2)
          = l.countP fun p => (judged pre[p] s p).2 :=
        List.countP_congr fun p mem => by rw [same p mem]
      rw [List.countP_cons, Nat.add_comm, ← count]
      exact (stepLimiter_starts pre[o] s o).trans later.starts

theorem mem_allOutputs (o : OutputId) : o ∈ allOutputs := by
  revert o
  decide

theorem stepLimiters_stepped (pre : Vector Sample 4) (s : State) :
    LimitersStepped pre allOutputs s (s.stepLimiters pre) := foldl_stepLimiter pre (by decide) s

end Sys2Proof.Machine.Outputs
end

section
/-!
PROOFS. What the signals of a tick leave: the engines' records, the scanner lines and phase, the crossover and the
horn line (06_wheel_engines.md R106, R108, 08_percussion_and_scanner.md R146, 09_the_rotor_unit.md R160, R161).
-/

namespace Sys2Proof.Machine.Outputs

open Sys2Proof.Machine.Requests Sys2Proof.Machine.Keys Sys2Proof.Machine.Engines

/-! ### The engines -/

/-- From c to d each engine of a list has had its part in a tick, and no part of the cache but the engines has
changed (R108). -/
structure Rendering (l : List EngineId) (c d : EngineCache) : Prop where
  rendered : ∀ e ∈ l, ∃ tone, d.engines[e] = sounded c.engines[e] tone
  cache : d = { c with engines := d.engines }

theorem foldl_renderEngine (s : State) {l : List EngineId} (once : l.Nodup) :
    ∀ a : Rendered, Rendering l a.cache (l.foldl s.renderEngine a).cache := by
  induction l with
  | nil => exact fun a => ⟨nofun, rfl⟩
  | cons e l ih =>
    intro a
    obtain ⟨new, rest⟩ := List.nodup_cons.mp once
    obtain ⟨tone, first⟩ := renderEngine_sounded s a e
    have later := ih rest (s.renderEngine a e)
    rw [List.foldl_cons]
    refine ⟨fun i mem => ?_, ?_⟩
    · rcases List.mem_cons.mp mem with same | mem
      · subst same
        exact ⟨tone, by rw [renderFold_others s l _ i new, first, setEngine_self]⟩
      · obtain ⟨tone, record⟩ := later.rendered i mem
        rw [renderEngine_others s a e i fun same => new (same ▸ mem)] at record
        exact ⟨tone, record⟩
    · rw [later.cache, first]
      rfl

theorem renderEngines_rendering (s : State) : Rendering (List.finRange 64) s.eng s.renderEngines.cache :=
  foldl_renderEngine s (List.nodup_finRange 64) ⟨s.eng, Vector.replicate 96 0, 0⟩

/-- What the tick has made of an engine by its state: an ACTIVE one is dirty from then on, an IDLE one that still
settles has a new tone state, and the others are as they were (R106 to R108). -/
theorem sounded_cases {r q : Engine} {tone : ToneState} (h : q = sounded r tone) :
    (r.state = .active → r.wheel ≠ none → q = { r with tone := q.tone, dirty := true }) ∧
    (r.state = .idle → r.wheel ≠ none → r.settle ≠ 256 → q = { r with tone := q.tone }) ∧
    ((r.state ≠ .active ∧ r.state ≠ .idle) ∨ r.wheel = none ∨ (r.state = .idle ∧ r.settle = 256) → q = r) := by
  subst h
  unfold sounded
  refine ⟨fun active own => ?_, fun idle own settles => ?_, fun rests => ?_⟩
  · rw [if_pos ⟨active, own⟩]
  · have still : ¬ (r.state = .active ∧ r.wheel ≠ none) := fun h => nomatch idle.symm.trans h.1
    rw [if_neg still, if_pos ⟨idle, own, settles⟩]
  · rw [if_neg, if_neg]
    · rintro ⟨idle, own, settles⟩
      rcases rests with ⟨_, other⟩ | free | ⟨_, settled⟩
      · exact other idle
      · exact own free
      · exact settles settled
    · rintro ⟨active, own⟩
      rcases rests with ⟨other, _⟩ | free | ⟨idle, _⟩
      · exact other active
      · exact own free
      · exact nomatch idle.symm.trans active

/-! ### A delay line -/

theorem pushSample_zero {n : Nat} (v : Vector Sample (n + 1)) (x : Sample) : (pushSample v x)[0] = x :=
  tabulate_get _ (0 : Fin (n + 1))

theorem pushSample_succ {n : Nat} (v : Vector Sample (n + 1)) (x : Sample) (i : Fin n) :
    (pushSample v x)[i.val + 1] = v[i.val] := by
  refine (tabulate_get _ i.succ).trans ?_
  simp

/-! ### The crossover -/

/-- Silence leaves the crossover at rest (R161). -/
theorem crossover_rest : crossover CrossoverState.rest 0 = (CrossoverState.rest, 0) := by
  rw [crossover_eq]
  simp [CrossoverState.rest]

/-! ### What the signals of a tick come to -/

theorem formAudio_eng (s : State) : s.formAudio.1.eng = s.renderEngines.cache := by
  unfold State.formAudio
  rw [State.setRot_eng, State.setPrc_eng, State.setEng_eng]

end Sys2Proof.Machine.Outputs
end

section
/-!
PROOFS. The pre-limit samples of a tick, what each limiter makes of its own, and the port samples at the limit
scale in force (10_audio_ports_and_output_limiting.md R169, R172 to R175, R178).
-/

namespace Sys2Proof.Machine.Outputs

open Sys2Proof.Machine.Requests Sys2Proof.Machine.Keys

/-! ### The pre-limit samples (R169, R171) -/

/-- A source sample is made of a tick's signals, the Rotor Settings and the rotors' positions (R162). -/
theorem sourceSample_congr {s t : State} (tab : t.tab = s.tab) (horn : t.rot.horn = s.rot.horn)
    (drum : t.rot.drum = s.rot.drum) (a : Signals) (source : Nat) :
    t.sourceSample a source = s.sourceSample a source := by
  unfold State.sourceSample State.rotorSignal State.hornPickup State.drumPickup State.dopplerDelay
    State.amplitudeGain State.hornFacing State.drumFacing State.rotorSetting
  rw [tab, horn, drum]

/-- The state in which the limiters take their step: the signals are formed and the fade has moved. -/
def beforeLimiters (u : State) : State := u.formAudio.1.stepFade

/-- The pre-limit samples of a tick. -/
def limitedSamples (u : State) : Vector Sample 4 := (beforeLimiters u).prelimits u.formAudio.2

/-- The state once the limiters have taken their step. -/
def afterLimiters (u : State) : State := (beforeLimiters u).stepLimiters (limitedSamples u)

theorem outputStage_eq {u : State} (first : u.out.stepTaken = false) :
    u.outputStage = (afterLimiters u).sendPorts (limitedSamples u) := by
  unfold State.outputStage
  rw [if_neg (by rw [first]; decide)]
  rfl

theorem beforeLimiters_frame (u : State) : Frame [.eng, .prc, .rot, .out] u (beforeLimiters u) :=
  (u.formAudio_frame.mono (by decide)).trans ((State.stepFade_frame _).mono (by decide))

theorem beforeLimiters_out (u : State) : (beforeLimiters u).out
    = { u.out with fade := fadeStep u.out.muteBefore u.out.fade, stepTaken := true } := by
  have out : u.formAudio.1.out = u.out := u.formAudio_frame.allOut (by decide) (by decide)
  rw [beforeLimiters, State.stepFade, State.setOut_out, out]

/-- The settings of an output are those of the tables and the operating state. -/
theorem outputWord_congr {l : List Block} {s t : State} (f : Frame l s t) (apart : Block.tab ∉ l ∧ Block.req ∉ l)
    (o : OutputId) (part : Nat) : t.outputWord o part = s.outputWord o part := by
  rw [State.outputWord, State.outputWord, f.tab apart.1, f.req apart.2]

/-- The pre-limit sample of an output, told of the state before the tick's signals (R169). -/
def tickSample (u : State) (o : OutputId) : Sample :=
  if u.outputSource o = 0 ∨ u.outputLevel o = 0 ∨ fadeStep u.out.muteBefore u.out.fade = 0 then 0
  else u.sourceSample u.formAudio.2 (u.outputSource o) * over256 (u.outputLevel o)
    * ((fadeStep u.out.muteBefore u.out.fade : Rat) / 64)

theorem limitedSamples_get (u : State) (o : OutputId) : (limitedSamples u)[o] = tickSample u o := by
  have word := outputWord_congr (beforeLimiters_frame u) (by decide)
  have tab : (beforeLimiters u).tab = u.tab := (beforeLimiters_frame u).tab (by decide)
  have source : (beforeLimiters u).outputSource o = u.outputSource o := by
    rw [State.outputSource, State.outputSource, word]
  have level : (beforeLimiters u).outputLevel o = u.outputLevel o := by rw [State.outputLevel, State.outputLevel, word]
  have sample := sourceSample_congr (s := u) (t := beforeLimiters u) tab rfl rfl
  rw [limitedSamples, State.prelimits, tabulate_get, Fin.ofNat_val_eq_self, State.prelimit, source, level, sample,
    beforeLimiters_out, tickSample]

/-! ### What the limiters judge (R172 to R174) -/

theorem exceeds_eq (x threshold : Sample) : exceeds x threshold = decide (threshold < x ∨ threshold < -x) := by
  unfold exceeds
  refine decide_eq_decide.mpr ?_
  split
  · next negative => exact ⟨.inr, fun h => h.elim (fun h => by linarith) id⟩
  · next positive => exact ⟨.inl, fun h => h.elim id fun h => by linarith⟩

/-- A limiter's step of a tick, told of the state before the tick's signals. -/
def tickJudged (u : State) (o : OutputId) : Limiter × Bool :=
  (u.out.limiters[o]).step (u.limitMode o) (u.outputDeglitch o) (u.limitN o) (decide (u.seq.tickCount.toNat % 64 = 0))
    (decide (u.outputThreshold o < tickSample u o ∨ u.outputThreshold o < -tickSample u o))

theorem judged_eq (u : State) (o : OutputId) : judged (limitedSamples u)[o] (beforeLimiters u) o = tickJudged u o := by
  have limiters : (beforeLimiters u).out.limiters[o] = u.out.limiters[o] := by rw [beforeLimiters_out]
  rw [judged_congr (beforeLimiters_frame u) (by decide) limiters, judged, exceeds_eq, limitedSamples_get]
  rfl

/-- What a limiter makes of its record: without an episode it rests, counts its run or starts one, and a standing
episode goes on or ends as its mode says (R173, R174). -/
theorem step_law (l : Limiter) (mode : LimitMode) (d n : Nat) (boundary : Prop) [Decidable boundary] (x : Bool) :
    let q := (l.step mode d n (decide boundary) x).1
    (l.episode = none → mode = .off ∨ x = false → q = { l with run := 0 }) ∧
    (l.episode = none → mode ≠ .off → x = true → l.run + 1 < d → q = { l with run := l.run + 1 }) ∧
    ((l.episode = none ∧ mode ≠ .off ∧ x = true ∧ d ≤ l.run + 1) → q.run = 0 ∧ q.flag = true ∧
      ∃ e, q.episode = some e ∧ e.mode = mode ∧ e.extend = false ∧ (mode = .afterN → e.remaining = n + 1)) ∧
    (∀ e, l.episode = some e → q.run = 0 ∧ q.flag = l.flag ∧
      (e.mode = .below → q.episode = if x then some e else none) ∧
      (e.mode = .report → q.episode = if boundary then none else some e) ∧
      (e.mode = .afterN → q.episode = if boundary then
          (if e.remaining ≤ 1 then none else some { e with remaining := e.remaining - 1 }) else some e) ∧
      (e.mode = .nextPeriod → q.episode = if boundary then
          (if e.extend ∨ x = true then some { e with extend := false } else none)
        else some { e with extend := e.extend || x })) := by
  dsimp only
  refine ⟨fun free rests => ?_, fun free on above short => ?_, ?_, fun e stands => ?_⟩
  · rw [step_resting free rests]
  · rw [above, step_counting free on short]
  · rintro ⟨free, on, above, long⟩
    rw [above, step_starting free on long]
    exact ⟨rfl, rfl, _, rfl, rfl, rfl, fun after => if_pos after⟩
  · rw [step_standing stands]
    refine ⟨rfl, rfl, fun mode => ?_, fun mode => ?_, fun mode => ?_, fun mode => ?_⟩ <;>
      simp [Episode.step, mode]

/-! ### The port samples (R169, R175, R178) -/

theorem foldl_min_le (xs : List Sample) : ∀ a : Sample,
    xs.foldl min a ≤ a ∧ ∀ x ∈ xs, xs.foldl min a ≤ x := by
  induction xs with
  | nil => exact fun a => ⟨le_refl a, nofun⟩
  | cons x xs ih =>
    intro a
    obtain ⟨start, all⟩ := ih (min a x)
    refine ⟨start.trans (min_le_left a x), fun y mem => ?_⟩
    rcases List.mem_cons.mp mem with same | mem
    · exact same ▸ start.trans (min_le_right a x)
    · exact all y mem

theorem foldl_min_mem (xs : List Sample) : ∀ a : Sample, xs.foldl min a ∈ a :: xs := by
  induction xs with
  | nil => exact fun a => List.mem_singleton_self a
  | cons x xs ih =>
    intro a
    rcases List.mem_cons.mp (ih (min a x)) with low | mem
    · rcases min_choice a x with first | second
      · exact List.mem_cons.mpr (.inl (low.trans first))
      · exact List.mem_cons_of_mem _ (List.mem_cons.mpr (.inl (low.trans second)))
    · exact List.mem_cons_of_mem _ (List.mem_cons_of_mem _ mem)

theorem limitGain_le_one (s : State) (o : OutputId) : s.limitGain o ≤ 1 := by
  have small : bitsOf (s.outputWord o 2) 15 8 < 256 := Nat.mod_lt _ (by decide)
  rw [State.limitGain, over256, div_le_one (by norm_num)]
  exact_mod_cast Nat.le_of_lt small

/-- The limit scale is 1 where no episode acts, and otherwise the smallest gain of those that act (R175). -/
theorem limitScale_law (s : State) (o : OutputId) :
    ((∀ p, ¬ s.actsOn p o = true) → s.limitScale o = 1) ∧
    ((∃ p, s.actsOn p o = true) → (∃ p, s.actsOn p o = true ∧ s.limitScale o = s.limitGain p) ∧
      ∀ p, s.actsOn p o = true → s.limitScale o ≤ s.limitGain p) := by
  have acting : ∀ p, p ∈ allOutputs.filter (fun p => s.actsOn p o) ↔ s.actsOn p o = true := fun p => by
    rw [List.mem_filter, and_iff_right (mem_allOutputs p)]
  have least : ∀ p, s.actsOn p o = true → s.limitScale o ≤ s.limitGain p := fun p acts =>
    (foldl_min_le _ 1).2 _ (List.mem_map_of_mem ((acting p).mpr acts))
  refine ⟨fun none => ?_, fun ⟨p, acts⟩ => ⟨?_, least⟩⟩
  · have empty : allOutputs.filter (fun p => s.actsOn p o) = [] :=
      List.filter_eq_nil_iff.mpr fun p _ => none p
    rw [State.limitScale, empty]
    rfl
  · rcases List.mem_cons.mp (foldl_min_mem ((allOutputs.filter (fun p => s.actsOn p o)).map s.limitGain) 1) with
      one | gain
    · exact ⟨p, acts, le_antisymm (least p acts) ((limitGain_le_one s p).trans one.ge)⟩
    · obtain ⟨q, mem, same⟩ := List.mem_map.mp gain
      exact ⟨q, (acting q).mp mem, same.symm⟩

/-- An episode of output p acts on output o in the modes that limit, on its own output and with scope ALL on every
one (R175). -/
theorem actsOn_iff (s : State) (p o : OutputId) : s.actsOn p o = true ↔
    ∃ e, (s.out.limiters[p]).episode = some e ∧ (e.mode = .nextPeriod ∨ e.mode = .below ∨ e.mode = .afterN) ∧
      (p = o ∨ s.scopeAll p = true) := by
  unfold State.actsOn
  split
  · next e stands =>
    have modes : ((match e.mode with
        | .nextPeriod | .below | .afterN => true
        | _ => false) : Bool) = true ↔ e.mode = .nextPeriod ∨ e.mode = .below ∨ e.mode = .afterN := by
      cases e.mode <;> simp
    rw [Bool.and_eq_true, Bool.or_eq_true, beq_iff_eq]
    refine (and_congr_left' modes).trans ?_
    exact ⟨fun h => ⟨e, stands, h⟩, fun ⟨e', stands', h⟩ => by cases stands.symm.trans stands'; exact h⟩
  · next free => exact ⟨nofun, fun ⟨e, stands, _⟩ => nomatch free.symm.trans stands⟩

theorem sendPorts_get (s : State) (pre : Vector Sample 4) (o : OutputId) :
    (s.sendPorts pre).out.ports[o] = max (-1) (min 1 (pre[o] * s.scaleInForce o)) := by
  have own : (s.portSamples pre)[o] = clip (scaled pre[o] (s.scaleInForce o)) :=
    (tabulate_get _ o).trans
      (congrArg (fun p : OutputId => clip (scaled pre[p] (s.scaleInForce p))) (Fin.ofNat_val_eq_self o))
  rw [← scaled_eq_mul]
  exact own

end Sys2Proof.Machine.Outputs
end

section
/-!
PROOFS. The statement on the output stage's step (10_audio_ports_and_output_limiting.md R168, R169, R171 to R175,
R177, R178, R181).
-/

namespace Sys2Proof.Machine.Outputs

open Sys2Proof.Machine.Requests Sys2Proof.Machine.Keys Sys2Proof.Machine.Engines

variable {u : State}

/-! ### How many episodes start -/

/-- How many outputs start an episode at a tick. -/
def startCount (u : State) : Nat := allOutputs.countP fun o => (tickJudged u o).2

theorem startCount_pos (u : State) : 0 < startCount u ↔ ∃ o, (tickJudged u o).2 = true := by
  rw [startCount, List.countP_pos_iff]
  exact ⟨fun ⟨o, _, start⟩ => ⟨o, start⟩, fun ⟨o, start⟩ => ⟨o, mem_allOutputs o, start⟩⟩

theorem startCount_one {o₁ : OutputId} (only : ∀ o, (tickJudged u o).2 = true ↔ o = o₁) : startCount u = 1 := by
  have same : startCount u = allOutputs.countP fun o => decide (o = o₁) :=
    List.countP_congr fun o _ => (only o).trans decide_eq_true_iff.symm
  have single : ∀ o₁ : OutputId, (allOutputs.countP fun o => decide (o = o₁)) = 1 := by decide
  exact same.trans (single o₁)

/-! ### The steps of the stage -/

theorem afterLimiters_stepped (u : State) :
    LimitersStepped (limitedSamples u) allOutputs (beforeLimiters u) (afterLimiters u) :=
  stepLimiters_stepped _ _

theorem afterLimiters_starts (u : State) : Starts (startCount u) (beforeLimiters u) (afterLimiters u) := by
  have stepped := (afterLimiters_stepped u).starts
  simp only [judged_eq] at stepped
  exact stepped

theorem sendPorts_noStart (pre : Vector Sample 4) (s : State) : NoStart s (s.sendPorts pre) :=
  ⟨State.sendPorts_frame pre s, fun _ => rfl⟩

theorem stage_starts (first : u.out.stepTaken = false) : Starts (startCount u) (beforeLimiters u) u.outputStage := by
  rw [outputStage_eq first]
  have ports : Starts 0 (afterLimiters u) ((afterLimiters u).sendPorts (limitedSamples u)) :=
    ⟨fun _ => sendPorts_noStart _ _, nofun, nofun⟩
  exact (afterLimiters_starts u).trans ports

theorem beforeLimiters_unreported (u : State) : Unreported u (beforeLimiters u) :=
  ⟨beforeLimiters_frame u, fun o => by rw [beforeLimiters_out]⟩

theorem beforeLimiters_eng (u : State) : (beforeLimiters u).eng = u.renderEngines.cache := by
  rw [beforeLimiters, State.stepFade, State.setOut_eng, formAudio_eng]

theorem beforeLimiters_starved (u : State) : (beforeLimiters u).eng.starved = u.eng.starved := by
  rw [beforeLimiters_eng, (renderEngines_rendering u).cache]

/-! ### OUT and the counters -/

theorem outputStage_taken (taken : u.out.stepTaken = true) : u.outputStage = u := by
  unfold State.outputStage
  rw [if_pos taken]

theorem stage_limiters (first : u.out.stepTaken = false) :
    u.outputStage.out.limiters = (afterLimiters u).out.limiters := by
  rw [outputStage_eq first, State.sendPorts, State.setOut_out]

theorem stage_limiter (first : u.out.stepTaken = false) (o : OutputId) :
    u.outputStage.out.limiters[o] = (tickJudged u o).1 := by
  have own := (afterLimiters_stepped u).limiters o
  rw [if_pos (mem_allOutputs o), judged_eq] at own
  exact (congrArg (fun v : Vector Limiter 4 => v[o]) (stage_limiters first)).trans own

theorem stage_out (first : u.out.stepTaken = false) : u.outputStage.out = { u.out with
    fade := fadeStep u.out.muteBefore u.out.fade, limiters := u.outputStage.out.limiters
    ports := u.outputStage.out.ports, stepTaken := true, muteRequest := u.outputStage.out.muteRequest } := by
  have kept := (afterLimiters_stepped u).out
  unfold OutKept at kept
  rw [beforeLimiters_out] at kept
  rw [outputStage_eq first, State.sendPorts, State.setOut_out, kept]

theorem stage_cnt (first : u.out.stepTaken = false) : u.outputStage.cnt = (afterLimiters u).cnt := by
  rw [outputStage_eq first, State.sendPorts, State.setOut_cnt]

theorem stage_episodes (first : u.out.stepTaken = false) (o : OutputId) : u.outputStage.cnt.limitEpisodes[o]
    = u.cnt.limitEpisodes[o] + if (tickJudged u o).2 = true then 1 else 0 := by
  have episodes := (afterLimiters_stepped u).episodes o
  rw [judged_eq, (beforeLimiters_frame u).cnt (by decide)] at episodes
  simp only [mem_allOutputs, true_and] at episodes
  rw [stage_cnt first]
  exact episodes

theorem stage_counters (first : u.out.stepTaken = false) :
    u.outputStage.cnt = { u.cnt with limitEpisodes := u.outputStage.cnt.limitEpisodes } := by
  have counters := (afterLimiters_stepped u).counters
  rw [(beforeLimiters_frame u).cnt (by decide)] at counters
  rw [stage_cnt first]
  exact counters

/-- The settings of the outputs are the same once the limiters have stepped. -/
theorem afterLimiters_outputWord (u : State) (o : OutputId) (part : Nat) :
    (afterLimiters u).outputWord o part = u.outputWord o part :=
  (outputWord_congr (State.stepLimiters_frame _ (beforeLimiters u)) (by decide) o part).trans
    (outputWord_congr (beforeLimiters_frame u) (by decide) o part)

/-- A port sample is the pre-limit sample at the limit scale in force, within full scale (R169, R175, R178). -/
theorem stage_ports (first : u.out.stepTaken = false) (o : OutputId) :
    let t := u.outputStage
    let acting := fun p o : OutputId => ∃ e, (t.out.limiters[p]).episode = some e ∧
      (e.mode = .nextPeriod ∨ e.mode = .below ∨ e.mode = .afterN) ∧ (p = o ∨ u.scopeAll p = true)
    ∃ scale : Rat, t.out.ports[o] = max (-1) (min 1 (tickSample u o * scale)) ∧
      (u.out.unlimited = true → scale = 1) ∧
      (u.out.unlimited = false → ((∀ p, ¬ acting p o) → scale = 1) ∧
        ((∃ p, acting p o) → (∃ p, acting p o ∧ scale = u.limitGain p) ∧
          ∀ p, acting p o → scale ≤ u.limitGain p)) := by
  intro t acting
  have word := afterLimiters_outputWord u
  have scope : ∀ p, (afterLimiters u).scopeAll p = u.scopeAll p := fun p => by
    rw [State.scopeAll, State.scopeAll, word]
  have gain : ∀ p, (afterLimiters u).limitGain p = u.limitGain p := fun p => by
    rw [State.limitGain, State.limitGain, word]
  have limiters : t.out.limiters = (afterLimiters u).out.limiters := stage_limiters first
  have acts : ∀ p, (afterLimiters u).actsOn p o = true ↔ acting p o := fun p => by
    rw [actsOn_iff, scope, ← limiters]
  have unlimited : (afterLimiters u).out.unlimited = u.out.unlimited := by
    rw [(afterLimiters_stepped u).out, beforeLimiters_out]
  have law := limitScale_law (afterLimiters u) o
  simp only [acts, gain] at law
  refine ⟨(afterLimiters u).scaleInForce o, ?_, fun all => ?_, fun limited => ?_⟩
  · show u.outputStage.out.ports[o] = _
    rw [outputStage_eq first, ← limitedSamples_get]
    exact sendPorts_get _ _ o
  · rw [State.scaleInForce, unlimited, if_pos all]
  · rw [State.scaleInForce, unlimited, if_neg (by rw [limited]; decide)]
    exact law

/-! ### The faults and the notice of a start -/

theorem stage_started (first : u.out.stepTaken = false) (starts : ∃ o, (tickJudged u o).2 = true) :
    u.outputStage.Signalled ∧ ∀ k, u.outputStage.record k = limitedRecord u u.outputStage k := by
  have started := (stage_starts first).some ((startCount_pos u).mpr starts)
  exact ⟨started.signals, started.records_after (beforeLimiters_unreported u) (beforeLimiters_starved u)⟩

theorem stage_released (first : u.out.stepTaken = false) (starts : ∃ o, (tickJudged u o).2 = true)
    (would : u.WouldRelease .outputLimit) : Released allManuals u u.outputStage :=
  ((stage_starts first).some ((startCount_pos u).mpr starts)).released_after (beforeLimiters_unreported u) would

theorem stage_oneChange (first : u.out.stepTaken = false) {o₁ : OutputId}
    (only : ∀ o, (tickJudged u o).2 = true ↔ o = o₁) : OneChange u u.outputStage :=
  ((stage_starts first).one (startCount_one only)).after (beforeLimiters_unreported u)

theorem stage_quiet (first : u.out.stepTaken = false) (quiet : ∀ o, ¬ (tickJudged u o).2 = true) :
    Frame [.rot, .out, .eng, .prc] u u.outputStage := by
  have none : startCount u = 0 := Nat.eq_zero_of_not_pos fun some =>
    ((startCount_pos u).mp some).elim quiet
  exact ((beforeLimiters_frame u).mono (by decide)).trans (((stage_starts first).none none).frame.mono (by decide))

/-! ### The sound -/

theorem beforeLimiters_prc (u : State) : (beforeLimiters u).prc = { u.prc with
    upperLine := pushSample u.prc.upperLine (u.unscannedSum u.renderEngines.signals .upper)
    lowerLine := pushSample u.prc.lowerLine (u.unscannedSum u.renderEngines.signals .lower)
    phase := u.prc.phase + u.scannerIncrement } := by
  rw [beforeLimiters, State.stepFade, State.setOut_prc]
  unfold State.formAudio
  rw [State.setRot_prc, State.setPrc_prc]

/-- The scanner's phase and lines take their step (R146). -/
theorem stage_lines (first : u.out.stepTaken = false) :
    u.outputStage.prc.phase = u.prc.phase + u.scannerIncrement ∧
    u.outputStage.prc.upperLine = pushSample u.prc.upperLine (u.unscannedSum u.renderEngines.signals .upper) ∧
    u.outputStage.prc.lowerLine = pushSample u.prc.lowerLine (u.unscannedSum u.renderEngines.signals .lower) := by
  have lines := (stage_starts first).lines
  refine ⟨?_, ?_, ?_⟩
  · rw [lines.phase, beforeLimiters_prc]
  · rw [lines.upper, beforeLimiters_prc]
  · rw [lines.lower, beforeLimiters_prc]

theorem formAudio_rot (u : State) : u.formAudio.1.rot = { u.rot with
    crossover := (crossover u.rot.crossover (u.inputOf u.formAudio.2.dry)).1
    hornLine := pushSample u.rot.hornLine
      (u.inputOf u.formAudio.2.dry - (crossover u.rot.crossover (u.inputOf u.formAudio.2.dry)).2) } := by
  simp only [← rotorInput_eq_inputOf]
  unfold State.formAudio
  rw [State.setRot_rot]

theorem scannerIncrement_eq (u : State) : u.scannerIncrement
    = if u.req.opState = .initializing then 0 else wordAt u.tab.playSettings 7 := by
  simp [State.scannerIncrement, wordAt]

/-- The crossover and the horn line take their step (R160, R161). -/
theorem stage_rot (first : u.out.stepTaken = false) :
    let input := u.inputOf u.formAudio.2.dry
    let bands := crossover u.rot.crossover input
    u.outputStage.rot = { u.rot with
      crossover := bands.1, hornLine := pushSample u.rot.hornLine (input - bands.2) } := by
  intro input bands
  rw [(stage_starts first).frame.rot (by decide), beforeLimiters, State.stepFade, State.setOut_rot]
  exact formAudio_rot u

/-- No start of the tick releases the keys (R181). -/
abbrev KeysHeld (u : State) : Prop := ¬ ((∃ o, (tickJudged u o).2 = true) ∧ u.WouldRelease .outputLimit)

/-- Where the keys are not released, PRC and ENG have changed by the sound of the tick alone. -/
theorem stage_held (first : u.out.stepTaken = false) (held : KeysHeld u) :
    Frame heldBlocks (beforeLimiters u) u.outputStage := by
  refine (stage_starts first).held fun ⟨starts, would⟩ => held ⟨(startCount_pos u).mp starts, ?_⟩
  exact ((beforeLimiters_unreported u).wouldRelease _).mp would

theorem stage_prc_held (first : u.out.stepTaken = false) (held : KeysHeld u) :
    u.outputStage.prc = { u.prc with phase := u.outputStage.prc.phase, upperLine := u.outputStage.prc.upperLine
                                     lowerLine := u.outputStage.prc.lowerLine } := by
  rw [(stage_held first held).prc (by decide), beforeLimiters_prc]

theorem stage_cache_held (first : u.out.stepTaken = false) (held : KeysHeld u) :
    u.outputStage.eng = u.renderEngines.cache := by
  rw [(stage_held first held).eng (by decide), beforeLimiters_eng]

theorem stage_eng_held (first : u.out.stepTaken = false) (held : KeysHeld u) :
    u.outputStage.eng = { u.eng with engines := u.outputStage.eng.engines } := by
  rw [stage_cache_held first held]
  exact (renderEngines_rendering u).cache

/-- An ACTIVE engine has rendered and is dirty, an IDLE one that settles has rendered, and the others are as they
were (R106, R108). -/
theorem stage_engine_held (first : u.out.stepTaken = false) (held : KeysHeld u) (e : EngineId) :
    let r := u.eng.engines[e]
    let q := u.outputStage.eng.engines[e]
    let tone := (u.renderEngines.cache.engines[e]).tone
    (r.state = .active → r.wheel ≠ none → q = { r with tone := tone, dirty := true }) ∧
    (r.state = .idle → r.wheel ≠ none → r.settle ≠ 256 → q = { r with tone := tone }) ∧
    ((r.state ≠ .active ∧ r.state ≠ .idle) ∨ r.wheel = none ∨ (r.state = .idle ∧ r.settle = 256) → q = r) := by
  obtain ⟨tone, record⟩ := (renderEngines_rendering u).rendered e (List.mem_finRange e)
  rw [stage_cache_held first held]
  exact sounded_cases record

theorem stage_frame_held (first : u.out.stepTaken = false) (held : KeysHeld u) :
    Frame [.rot, .out, .cnt, .replies, .hold, .mute, .eng, .prc, .flt] u u.outputStage :=
  ((beforeLimiters_frame u).mono (by decide)).trans ((stage_held first held).mono (by decide))

/-- Settles O52: the processes of the tick are its rows in turn, the signals leave the engines, the scanner and the
rotor path as their step does, and each limiter judges its own sample; what the starts among them do is told by how
many there are. -/
theorem outputStageSteps : Obligations.OutputStageSteps := by
  intro s run
  obtain ⟨start, stop⟩ := exec_episode run
  obtain ⟨good, missing⟩ := tickProcesses_cascade s
  have processes := processesRun_tickProcesses run
  generalize s.tickProcesses = u at start stop good missing processes ⊢
  intro u' a word source level threshold deglitch gain mode fade pre exceeding boundary starts input bands
  have starting : ∀ o, (tickJudged u o).2 = true ↔ starts o := fun o => step_starts_iff
  have begun_iff : (∃ o, (tickJudged u o).2 = true) ↔ ∃ o, starts o := exists_congr starting
  refine ⟨u.outputStage, start, stop, processes, good, missing, outputStage_taken, fun first => ?_⟩
  intro released acting
  obtain ⟨phase, upper, lower⟩ := stage_lines first
  have rot := stage_rot first
  refine ⟨stage_out first, fun o => stage_ports first o, fun o => ?_, stage_counters first, fun o => ?_,
    fun begun => stage_started first (begun_iff.mpr begun),
    fun o₁ only => stage_oneChange first fun o => (starting o).trans (only o),
    fun quiet => stage_quiet first fun o start => quiet o ((starting o).mp start),
    fun ⟨begun, would⟩ => stage_released first (begun_iff.mpr begun) would,
    ?_, ?_, ?_, fun i => ⟨?_, ?_⟩, ?_, ?_, fun i => ?_, ?_, fun held => ?_, ?_⟩
  · rw [stage_episodes first, if_congr (starting o) rfl rfl]
  · dsimp only
    rw [stage_limiter first]
    exact step_law _ _ _ _ _ _
  · rw [phase, scannerIncrement_eq]
  · rw [upper]
    exact pushSample_zero _ _
  · rw [lower]
    exact pushSample_zero _ _
  · rw [upper]
    exact pushSample_succ _ _ i
  · rw [lower]
    exact pushSample_succ _ _ i
  · rw [rot]
    rfl
  · rw [rot]
    exact pushSample_zero _ _
  · rw [rot]
    exact pushSample_succ _ _ i
  · intro rest silent
    show crossover u.rot.crossover input = _
    rw [rest, silent, crossover_rest]
  · have held : KeysHeld u := fun ⟨begun, would⟩ => held ⟨begun_iff.mp begun, would⟩
    exact ⟨stage_prc_held first held, stage_eng_held first held, stage_engine_held first held,
      stage_frame_held first held⟩
  · exact (State.outputStage_frame u).mono (by decide)

end Sys2Proof.Machine.Outputs
end
